-- ==== Sys2Proof/Word.lean ====
section
/-! DEFINITION. The word types of the machine (spec/00_scope.md R7 `XLEN`, R8, R19). -/

namespace Sys2Proof

/-- A 32-bit register value or address (`XLEN` = 32, R7). -/
abbrev Word := BitVec 32

/-- A halfword: a Thumb instruction or a 2-byte datum (R95, R160). -/
abbrev Half := BitVec 16

/-- A byte of memory (R90). -/
abbrev Byte := BitVec 8

end Sys2Proof
end

