-- ==== Sys2Proof/Syntax.lean ====
section
/-! DEFINITION. The instructions: every row of spec/opcode_table.json, in the table's order. Rows of one mnemonic that
differ only in the form of an operand share a constructor, and the form is an argument (log 29). Two constructors more
stand for the Thumb BL and BLX pairs, which R630 executes as one instruction (log 15). Register numbers, conditions and
shift types are already decoded; immediates stay bit fields. -/

namespace Sys2Proof

/-- A register number r0 to r15 (R10), also a coprocessor register c0 to c15 or a coprocessor number p0 to p15. -/
abbrev RegNum := Fin 16

/-- A low register r0 to r7 of a Thumb format (R10). -/
abbrev LowReg := Fin 8

/-- The condition codes (R16, R133). -/
inductive Cond where
  | eq | ne | cs | cc | mi | pl | vs | vc | hi | ls | ge | lt | gt | le | al
deriving DecidableEq, Repr

/-- The shift types of Table B.4 (R139); RRX is `ror` by an immediate 0. -/
inductive ShiftType where
  | lsl | lsr | asr | ror
deriving DecidableEq, Repr

/-- The addressing forms of the word, byte, halfword and coprocessor transfers (R141, R147, R154, R320, R321). -/
inductive Indexing where
  /-- `[Rn, off]` -/
  | offset
  /-- `[Rn, off]!` -/
  | pre
  /-- `[Rn], off` -/
  | post
deriving DecidableEq, Repr

/-- `Rm {, <imm_shift>}`: the fields shift_size, shift and Rm (R18, R139). -/
structure ShiftByImm where
  amount : BitVec 5
  ty : ShiftType
  rm : RegNum
deriving DecidableEq, Repr

/-- `Rm, <shift> Rs`: the fields Rs, shift and Rm (R18, R136). -/
structure ShiftByReg where
  rs : RegNum
  ty : ShiftType
  rm : RegNum
deriving DecidableEq, Repr

/-- `#<rotated_immed>`: the fields rotate and immed8 (R13, R137). -/
structure RotatedImm where
  rotate : BitVec 4
  imm : BitVec 8
deriving DecidableEq, Repr

/-- The three forms of the second operand of data processing (R220): the rows of R135 to R137. -/
inductive Operand2 where
  | imm (op : RotatedImm)
  | shiftImm (op : ShiftByImm)
  | shiftReg (op : ShiftByReg)
deriving DecidableEq, Repr

/-- The offset of a word or byte transfer (R147, R320). -/
inductive WordOffset where
  | imm (imm : BitVec 12)
  | reg (op : ShiftByImm)
deriving DecidableEq, Repr

/-- The offset of a halfword, signed-byte or doubleword transfer (R141, R321). -/
inductive HalfOffset where
  | imm (imm : BitVec 8)
  | reg (rm : RegNum)
deriving DecidableEq, Repr

/-- The operand of MSR (R142, R305). -/
inductive MsrOperand where
  | imm (op : RotatedImm)
  | reg (rm : RegNum)
deriving DecidableEq, Repr

/-- The addressing of LDC and STC: offset, pre- or post-indexed with a scaled offset, or unindexed with an option for
the coprocessor (R154, R284). -/
inductive CpAddressing where
  | indexed (idx : Indexing) (u : Bool) (imm : BitVec 8)
  | unindexed (option : BitVec 8)
deriving DecidableEq, Repr

/-- The instructions. The ARM rows come first, `c` is their condition; a name that begins with `t` is Thumb. -/
inductive Instr where
  /-- AND, every operand form: R224. -/
  | and (c : Cond) (s : Bool) (rn rd : RegNum) (op : Operand2)
  /-- EOR, every operand form: R228. -/
  | eor (c : Cond) (s : Bool) (rn rd : RegNum) (op : Operand2)
  /-- SUB, every operand form: R234. -/
  | sub (c : Cond) (s : Bool) (rn rd : RegNum) (op : Operand2)
  /-- RSB, every operand form: R232. -/
  | rsb (c : Cond) (s : Bool) (rn rd : RegNum) (op : Operand2)
  /-- ADD, every operand form: R222. -/
  | add (c : Cond) (s : Bool) (rn rd : RegNum) (op : Operand2)
  /-- ADC, every operand form: R223. -/
  | adc (c : Cond) (s : Bool) (rn rd : RegNum) (op : Operand2)
  /-- SBC, every operand form: R235. -/
  | sbc (c : Cond) (s : Bool) (rn rd : RegNum) (op : Operand2)
  /-- RSC, every operand form: R233. -/
  | rsc (c : Cond) (s : Bool) (rn rd : RegNum) (op : Operand2)
  /-- TST, every operand form: R237. -/
  | tst (c : Cond) (rn : RegNum) (op : Operand2)
  /-- TEQ, every operand form: R236. -/
  | teq (c : Cond) (rn : RegNum) (op : Operand2)
  /-- CMP, every operand form: R227. -/
  | cmp (c : Cond) (rn : RegNum) (op : Operand2)
  /-- CMN, every operand form: R226. -/
  | cmn (c : Cond) (rn : RegNum) (op : Operand2)
  /-- ORR, every operand form: R231. -/
  | orr (c : Cond) (s : Bool) (rn rd : RegNum) (op : Operand2)
  /-- MOV, every operand form: R229. -/
  | mov (c : Cond) (s : Bool) (rd : RegNum) (op : Operand2)
  /-- BIC, every operand form: R225. -/
  | bic (c : Cond) (s : Bool) (rn rd : RegNum) (op : Operand2)
  /-- MVN, every operand form: R230. -/
  | mvn (c : Cond) (s : Bool) (rd : RegNum) (op : Operand2)
  /-- MUL, multiply: R392. -/
  | mul (c : Cond) (s : Bool) (rd rs rm : RegNum)
  /-- MLA, multiply accumulate: R393. -/
  | mla (c : Cond) (s : Bool) (rd rn rs rm : RegNum)
  /-- UMAAL, multiply long: R398. -/
  | umaal (c : Cond) (rdHi rdLo rs rm : RegNum)
  /-- UMULL, multiply long: R394. -/
  | umull (c : Cond) (s : Bool) (rdHi rdLo rs rm : RegNum)
  /-- UMLAL, multiply long: R395. -/
  | umlal (c : Cond) (s : Bool) (rdHi rdLo rs rm : RegNum)
  /-- SMULL, multiply long: R396. -/
  | smull (c : Cond) (s : Bool) (rdHi rdLo rs rm : RegNum)
  /-- SMLAL, multiply long: R397. -/
  | smlal (c : Cond) (s : Bool) (rdHi rdLo rs rm : RegNum)
  /-- STRH, every operand form: R344. -/
  | strh (c : Cond) (idx : Indexing) (u : Bool) (rn rd : RegNum) (off : HalfOffset)
  /-- LDRH, every operand form: R329. -/
  | ldrh (c : Cond) (idx : Indexing) (u : Bool) (rn rd : RegNum) (off : HalfOffset)
  /-- LDRD, every operand form: R333. -/
  | ldrd (c : Cond) (idx : Indexing) (u : Bool) (rn rd : RegNum) (off : HalfOffset)
  /-- STRD, every operand form: R346. -/
  | strd (c : Cond) (idx : Indexing) (u : Bool) (rn rd : RegNum) (off : HalfOffset)
  /-- LDRSB, every operand form: R330. -/
  | ldrsb (c : Cond) (idx : Indexing) (u : Bool) (rn rd : RegNum) (off : HalfOffset)
  /-- LDRSH, every operand form: R332. -/
  | ldrsh (c : Cond) (idx : Indexing) (u : Bool) (rn rd : RegNum) (off : HalfOffset)
  /-- MRS, MRS Rd, cpsr: R303. -/
  | mrsCpsr (c : Cond) (rd : RegNum)
  /-- MRS, MRS Rd, spsr: R304. -/
  | mrsSpsr (c : Cond) (rd : RegNum)
  /-- MSR, every operand form: R306. -/
  | msrCpsr (c : Cond) (fields : BitVec 4) (op : MsrOperand)
  /-- MSR, every operand form: R307. -/
  | msrSpsr (c : Cond) (fields : BitVec 4) (op : MsrOperand)
  /-- BX, branch and exchange: R266. -/
  | bx (c : Cond) (rm : RegNum)
  /-- BXJ, branch and exchange to Java: R268. -/
  | bxj (c : Cond) (rm : RegNum)
  /-- BLX, BLX Rm: R265. -/
  | blxReg (c : Cond) (rm : RegNum)
  /-- CLZ, count leading zeros: R238. -/
  | clz (c : Cond) (rd rm : RegNum)
  /-- BKPT, breakpoint: R311. -/
  | bkpt (imm : BitVec 16)
  /-- QADD, saturating add/subtract: R441. -/
  | qadd (c : Cond) (rn rd rm : RegNum)
  /-- QSUB, saturating add/subtract: R443. -/
  | qsub (c : Cond) (rn rd rm : RegNum)
  /-- QDADD, saturating add/subtract: R442. -/
  | qdadd (c : Cond) (rn rd rm : RegNum)
  /-- QDSUB, saturating add/subtract: R444. -/
  | qdsub (c : Cond) (rn rd rm : RegNum)
  /-- SMLA<x><y>, signed halfword multiply accumulate: R400. -/
  | smlaxy (c : Cond) (rd rn rs : RegNum) (y x : Bool) (rm : RegNum)
  /-- SMLAW<y>, signed word by halfword multiply accumulate: R401. -/
  | smlawy (c : Cond) (rd rn rs : RegNum) (y : Bool) (rm : RegNum)
  /-- SMULW<y>, signed word by halfword multiply: R408. -/
  | smulwy (c : Cond) (rd rs : RegNum) (y : Bool) (rm : RegNum)
  /-- SMLAL<x><y>, signed halfword multiply accumulate long: R404. -/
  | smlalxy (c : Cond) (rdHi rdLo rs : RegNum) (y x : Bool) (rm : RegNum)
  /-- SMUL<x><y>, signed halfword multiply: R407. -/
  | smulxy (c : Cond) (rd rs : RegNum) (y x : Bool) (rm : RegNum)
  /-- SWP, swap word: R350. -/
  | swp (c : Cond) (rn rd rm : RegNum)
  /-- SWPB, swap byte: R351. -/
  | swpb (c : Cond) (rn rd rm : RegNum)
  /-- STREX, store exclusive: R347. -/
  | strex (c : Cond) (rn rd rm : RegNum)
  /-- LDREX, load exclusive: R334. -/
  | ldrex (c : Cond) (rn rd : RegNum)
  /-- STR, every operand form: R340. -/
  | str (c : Cond) (idx : Indexing) (u : Bool) (rn rd : RegNum) (off : WordOffset)
  /-- STRT, every operand form: R342. -/
  | strt (c : Cond) (u : Bool) (rn rd : RegNum) (off : WordOffset)
  /-- LDR, every operand form: R325. -/
  | ldr (c : Cond) (idx : Indexing) (u : Bool) (rn rd : RegNum) (off : WordOffset)
  /-- LDRT, every operand form: R327. -/
  | ldrt (c : Cond) (u : Bool) (rn rd : RegNum) (off : WordOffset)
  /-- STRB, every operand form: R341. -/
  | strb (c : Cond) (idx : Indexing) (u : Bool) (rn rd : RegNum) (off : WordOffset)
  /-- STRBT, every operand form: R343. -/
  | strbt (c : Cond) (u : Bool) (rn rd : RegNum) (off : WordOffset)
  /-- LDRB, every operand form: R326. -/
  | ldrb (c : Cond) (idx : Indexing) (u : Bool) (rn rd : RegNum) (off : WordOffset)
  /-- LDRBT, every operand form: R328. -/
  | ldrbt (c : Cond) (u : Bool) (rn rd : RegNum) (off : WordOffset)
  /-- QADD16, parallel add/subtract: R446. -/
  | qadd16 (c : Cond) (rn rd rm : RegNum)
  /-- QADDSUBX, parallel add/subtract: R447. -/
  | qaddsubx (c : Cond) (rn rd rm : RegNum)
  /-- QSUBADDX, parallel add/subtract: R448. -/
  | qsubaddx (c : Cond) (rn rd rm : RegNum)
  /-- QSUB16, parallel add/subtract: R449. -/
  | qsub16 (c : Cond) (rn rd rm : RegNum)
  /-- QADD8, parallel add/subtract: R450. -/
  | qadd8 (c : Cond) (rn rd rm : RegNum)
  /-- QSUB8, parallel add/subtract: R451. -/
  | qsub8 (c : Cond) (rn rd rm : RegNum)
  /-- UQADD16, parallel add/subtract: R453. -/
  | uqadd16 (c : Cond) (rn rd rm : RegNum)
  /-- UQADDSUBX, parallel add/subtract: R454. -/
  | uqaddsubx (c : Cond) (rn rd rm : RegNum)
  /-- UQSUBADDX, parallel add/subtract: R455. -/
  | uqsubaddx (c : Cond) (rn rd rm : RegNum)
  /-- UQSUB16, parallel add/subtract: R456. -/
  | uqsub16 (c : Cond) (rn rd rm : RegNum)
  /-- UQADD8, parallel add/subtract: R457. -/
  | uqadd8 (c : Cond) (rn rd rm : RegNum)
  /-- UQSUB8, parallel add/subtract: R458. -/
  | uqsub8 (c : Cond) (rn rd rm : RegNum)
  /-- SADD16, parallel add/subtract: R460. -/
  | sadd16 (c : Cond) (rn rd rm : RegNum)
  /-- SADDSUBX, parallel add/subtract: R461. -/
  | saddsubx (c : Cond) (rn rd rm : RegNum)
  /-- SSUBADDX, parallel add/subtract: R462. -/
  | ssubaddx (c : Cond) (rn rd rm : RegNum)
  /-- SSUB16, parallel add/subtract: R463. -/
  | ssub16 (c : Cond) (rn rd rm : RegNum)
  /-- SADD8, parallel add/subtract: R464. -/
  | sadd8 (c : Cond) (rn rd rm : RegNum)
  /-- SSUB8, parallel add/subtract: R465. -/
  | ssub8 (c : Cond) (rn rd rm : RegNum)
  /-- UADD16, parallel add/subtract: R466. -/
  | uadd16 (c : Cond) (rn rd rm : RegNum)
  /-- UADDSUBX, parallel add/subtract: R467. -/
  | uaddsubx (c : Cond) (rn rd rm : RegNum)
  /-- USUBADDX, parallel add/subtract: R468. -/
  | usubaddx (c : Cond) (rn rd rm : RegNum)
  /-- USUB16, parallel add/subtract: R469. -/
  | usub16 (c : Cond) (rn rd rm : RegNum)
  /-- UADD8, parallel add/subtract: R470. -/
  | uadd8 (c : Cond) (rn rd rm : RegNum)
  /-- USUB8, parallel add/subtract: R471. -/
  | usub8 (c : Cond) (rn rd rm : RegNum)
  /-- SHADD16, parallel add/subtract: R473. -/
  | shadd16 (c : Cond) (rn rd rm : RegNum)
  /-- SHADDSUBX, parallel add/subtract: R474. -/
  | shaddsubx (c : Cond) (rn rd rm : RegNum)
  /-- SHSUBADDX, parallel add/subtract: R475. -/
  | shsubaddx (c : Cond) (rn rd rm : RegNum)
  /-- SHSUB16, parallel add/subtract: R476. -/
  | shsub16 (c : Cond) (rn rd rm : RegNum)
  /-- SHADD8, parallel add/subtract: R477. -/
  | shadd8 (c : Cond) (rn rd rm : RegNum)
  /-- SHSUB8, parallel add/subtract: R478. -/
  | shsub8 (c : Cond) (rn rd rm : RegNum)
  /-- UHADD16, parallel add/subtract: R479. -/
  | uhadd16 (c : Cond) (rn rd rm : RegNum)
  /-- UHADDSUBX, parallel add/subtract: R480. -/
  | uhaddsubx (c : Cond) (rn rd rm : RegNum)
  /-- UHSUBADDX, parallel add/subtract: R481. -/
  | uhsubaddx (c : Cond) (rn rd rm : RegNum)
  /-- UHSUB16, parallel add/subtract: R482. -/
  | uhsub16 (c : Cond) (rn rd rm : RegNum)
  /-- UHADD8, parallel add/subtract: R483. -/
  | uhadd8 (c : Cond) (rn rd rm : RegNum)
  /-- UHSUB8, parallel add/subtract: R484. -/
  | uhsub8 (c : Cond) (rn rd rm : RegNum)
  /-- PKHBT, pack halfword bottom-top: R503. -/
  | pkhbt (c : Cond) (rn rd : RegNum) (amount : BitVec 5) (rm : RegNum)
  /-- PKHTB, pack halfword top-bottom: R504. -/
  | pkhtb (c : Cond) (rn rd : RegNum) (amount : BitVec 5) (rm : RegNum)
  /-- SSAT, signed saturate: R486. -/
  | ssat (c : Cond) (sat : BitVec 5) (rd : RegNum) (amount : BitVec 5) (asr : Bool) (rm : RegNum)
  /-- USAT, unsigned saturate: R487. -/
  | usat (c : Cond) (sat : BitVec 5) (rd : RegNum) (amount : BitVec 5) (asr : Bool) (rm : RegNum)
  /-- SSAT16, signed saturate two halfwords: R488. -/
  | ssat16 (c : Cond) (sat : BitVec 4) (rd rm : RegNum)
  /-- USAT16, unsigned saturate two halfwords: R489. -/
  | usat16 (c : Cond) (sat : BitVec 4) (rd rm : RegNum)
  /-- SEL, select bytes by GE: R485. -/
  | sel (c : Cond) (rn rd rm : RegNum)
  /-- REV, byte reverse word: R505. -/
  | rev (c : Cond) (rd rm : RegNum)
  /-- REV16, byte reverse packed halfwords: R506. -/
  | rev16 (c : Cond) (rd rm : RegNum)
  /-- REVSH, byte reverse signed halfword: R507. -/
  | revsh (c : Cond) (rd rm : RegNum)
  /-- SXTAB16, extend and accumulate: R494. -/
  | sxtab16 (c : Cond) (rn rd : RegNum) (rot : BitVec 2) (rm : RegNum)
  /-- SXTB16, extend: R491. -/
  | sxtb16 (c : Cond) (rd : RegNum) (rot : BitVec 2) (rm : RegNum)
  /-- SXTAB, extend and accumulate: R495. -/
  | sxtab (c : Cond) (rn rd : RegNum) (rot : BitVec 2) (rm : RegNum)
  /-- SXTB, extend: R492. -/
  | sxtb (c : Cond) (rd : RegNum) (rot : BitVec 2) (rm : RegNum)
  /-- SXTAH, extend and accumulate: R496. -/
  | sxtah (c : Cond) (rn rd : RegNum) (rot : BitVec 2) (rm : RegNum)
  /-- SXTH, extend: R493. -/
  | sxth (c : Cond) (rd : RegNum) (rot : BitVec 2) (rm : RegNum)
  /-- UXTAB16, extend and accumulate: R500. -/
  | uxtab16 (c : Cond) (rn rd : RegNum) (rot : BitVec 2) (rm : RegNum)
  /-- UXTB16, extend: R497. -/
  | uxtb16 (c : Cond) (rd : RegNum) (rot : BitVec 2) (rm : RegNum)
  /-- UXTAB, extend and accumulate: R501. -/
  | uxtab (c : Cond) (rn rd : RegNum) (rot : BitVec 2) (rm : RegNum)
  /-- UXTB, extend: R498. -/
  | uxtb (c : Cond) (rd : RegNum) (rot : BitVec 2) (rm : RegNum)
  /-- UXTAH, extend and accumulate: R502. -/
  | uxtah (c : Cond) (rn rd : RegNum) (rot : BitVec 2) (rm : RegNum)
  /-- UXTH, extend: R499. -/
  | uxth (c : Cond) (rd : RegNum) (rot : BitVec 2) (rm : RegNum)
  /-- SMLAD_X, dual multiply add accumulate: R402. -/
  | smlad (c : Cond) (rd rn rs : RegNum) (x : Bool) (rm : RegNum)
  /-- SMUAD_X, dual multiply add: R409. -/
  | smuad (c : Cond) (rd rs : RegNum) (x : Bool) (rm : RegNum)
  /-- SMLSD_X, dual multiply subtract accumulate: R403. -/
  | smlsd (c : Cond) (rd rn rs : RegNum) (x : Bool) (rm : RegNum)
  /-- SMUSD_X, dual multiply subtract: R410. -/
  | smusd (c : Cond) (rd rs : RegNum) (x : Bool) (rm : RegNum)
  /-- SMLALD_X, dual multiply add accumulate long: R405. -/
  | smlald (c : Cond) (rdHi rdLo rs : RegNum) (x : Bool) (rm : RegNum)
  /-- SMLSLD_X, dual multiply subtract accumulate long: R406. -/
  | smlsld (c : Cond) (rdHi rdLo rs : RegNum) (x : Bool) (rm : RegNum)
  /-- SMMLA_R, most significant word multiply accumulate: R412. -/
  | smmla (c : Cond) (rd rn rs : RegNum) (r : Bool) (rm : RegNum)
  /-- SMMUL_R, most significant word multiply: R411. -/
  | smmul (c : Cond) (rd rs : RegNum) (r : Bool) (rm : RegNum)
  /-- SMMLS_R, most significant word multiply subtract: R413. -/
  | smmls (c : Cond) (rd rn rs : RegNum) (r : Bool) (rm : RegNum)
  /-- USADA8, sum of absolute differences accumulate: R509. -/
  | usada8 (c : Cond) (rd rn rs rm : RegNum)
  /-- USAD8, sum of absolute differences: R508. -/
  | usad8 (c : Cond) (rd rs rm : RegNum)
  /-- LDM, load multiple: R372. -/
  | ldm (c : Cond) (p u w : Bool) (rn : RegNum) (list : BitVec 16)
  /-- LDM, load multiple, user-mode registers (^, pc not in list): R374. -/
  | ldmUser (c : Cond) (p u w : Bool) (rn : RegNum) (list : BitVec 15)
  /-- LDM, load multiple with cpsr restore (^, pc in list): R375. -/
  | ldmReturn (c : Cond) (p u w : Bool) (rn : RegNum) (list : BitVec 15)
  /-- STM, store multiple: R377. -/
  | stm (c : Cond) (p u w : Bool) (rn : RegNum) (list : BitVec 16)
  /-- STM, store multiple, user-mode registers (^): R379. -/
  | stmUser (c : Cond) (p u w : Bool) (rn : RegNum) (list : BitVec 16)
  /-- B, branch: R261. -/
  | b (c : Cond) (imm : BitVec 24)
  /-- BL, branch with link: R262. -/
  | bl (c : Cond) (imm : BitVec 24)
  /-- STC, every operand form: R286. -/
  | stc (c : Cond) (n : Bool) (rn cd cp : RegNum) (addr : CpAddressing)
  /-- LDC, every operand form: R285. -/
  | ldc (c : Cond) (n : Bool) (rn cd cp : RegNum) (addr : CpAddressing)
  /-- MCRR, move two ARM registers to coprocessor: R288. -/
  | mcrr (c : Cond) (rn rd cp : RegNum) (op1 : BitVec 4) (cm : RegNum)
  /-- MRRC, move coprocessor to two ARM registers: R292. -/
  | mrrc (c : Cond) (rn rd cp : RegNum) (op1 : BitVec 4) (cm : RegNum)
  /-- CDP, coprocessor data processing: R283. -/
  | cdp (c : Cond) (op1 : BitVec 4) (cn cd cp : RegNum) (op2 : BitVec 3) (cm : RegNum)
  /-- MCR, move ARM register to coprocessor: R287. -/
  | mcr (c : Cond) (op1 : BitVec 3) (cn rd cp : RegNum) (op2 : BitVec 3) (cm : RegNum)
  /-- MRC, move coprocessor to ARM register: R291. -/
  | mrc (c : Cond) (op1 : BitVec 3) (cn rd cp : RegNum) (op2 : BitVec 3) (cm : RegNum)
  /-- STC2, every operand form: R286. -/
  | stc2 (n : Bool) (rn cd cp : RegNum) (addr : CpAddressing)
  /-- LDC2, every operand form: R285. -/
  | ldc2 (n : Bool) (rn cd cp : RegNum) (addr : CpAddressing)
  /-- MCRR2, move two ARM registers to coprocessor: R288. -/
  | mcrr2 (rn rd cp : RegNum) (op1 : BitVec 4) (cm : RegNum)
  /-- MRRC2, move coprocessor to two ARM registers: R292. -/
  | mrrc2 (rn rd cp : RegNum) (op1 : BitVec 4) (cm : RegNum)
  /-- CDP2, coprocessor data processing: R283. -/
  | cdp2 (op1 : BitVec 4) (cn cd cp : RegNum) (op2 : BitVec 3) (cm : RegNum)
  /-- MCR2, move ARM register to coprocessor: R287. -/
  | mcr2 (op1 : BitVec 3) (cn rd cp : RegNum) (op2 : BitVec 3) (cm : RegNum)
  /-- MRC2, move coprocessor to ARM register: R291. -/
  | mrc2 (op1 : BitVec 3) (cn rd cp : RegNum) (op2 : BitVec 3) (cm : RegNum)
  /-- SWI, software interrupt: R310. -/
  | swi (c : Cond) (imm : BitVec 24)
  /-- CPS, CPS #<mode>: R301. -/
  | cpsMode (mode : BitVec 5)
  /-- CPS, CPSIE/CPSID <flags> , #<mode>: R302. -/
  | cpsFlags (disable m a i f : Bool) (mode : BitVec 5)
  /-- SETEND, set data endianness: R309. -/
  | setend (e : Bool)
  /-- PLD, every operand form: R360. -/
  | pld (u : Bool) (rn : RegNum) (off : WordOffset)
  /-- RFE, return from exception: R382. -/
  | rfe (p u w : Bool) (rn : RegNum)
  /-- SRS, save return state: R383. -/
  | srs (p u w : Bool) (mode : BitVec 5)
  /-- BLX, BLX <address25>: R264. -/
  | blxImm (h : Bool) (imm : BitVec 24)
  /-- LSL (Thumb), shift by immediate: R522. -/
  | tLslImm (imm : BitVec 5) (lm ld : LowReg)
  /-- LSR (Thumb), shift by immediate: R523. -/
  | tLsrImm (imm : BitVec 5) (lm ld : LowReg)
  /-- ASR (Thumb), shift by immediate: R524. -/
  | tAsrImm (imm : BitVec 5) (lm ld : LowReg)
  /-- ADD (Thumb), ADD Ld, Ln, Lm: R525. -/
  | tAddReg (lm ln ld : LowReg)
  /-- SUB (Thumb), SUB Ld, Ln, Lm: R526. -/
  | tSubReg (lm ln ld : LowReg)
  /-- ADD (Thumb), ADD Ld, Ln, #immed3: R527. -/
  | tAddImm3 (imm : BitVec 3) (ln ld : LowReg)
  /-- SUB (Thumb), SUB Ld, Ln, #immed3: R528. -/
  | tSubImm3 (imm : BitVec 3) (ln ld : LowReg)
  /-- MOV (Thumb), MOV Ld, #immed8: R529. -/
  | tMovImm (ld : LowReg) (imm : BitVec 8)
  /-- CMP (Thumb), CMP Ln, #immed8: R530. -/
  | tCmpImm (ln : LowReg) (imm : BitVec 8)
  /-- ADD (Thumb), ADD Ld, #immed8: R531. -/
  | tAddImm8 (ld : LowReg) (imm : BitVec 8)
  /-- SUB (Thumb), SUB Ld, #immed8: R532. -/
  | tSubImm8 (ld : LowReg) (imm : BitVec 8)
  /-- AND (Thumb), ALU operation, low registers: R534. -/
  | tAnd (lm ld : LowReg)
  /-- EOR (Thumb), ALU operation, low registers: R535. -/
  | tEor (lm ld : LowReg)
  /-- LSL (Thumb), ALU operation, low registers: R536. -/
  | tLslReg (lm ld : LowReg)
  /-- LSR (Thumb), ALU operation, low registers: R537. -/
  | tLsrReg (lm ld : LowReg)
  /-- ASR (Thumb), ALU operation, low registers: R538. -/
  | tAsrReg (lm ld : LowReg)
  /-- ADC (Thumb), ALU operation, low registers: R539. -/
  | tAdc (lm ld : LowReg)
  /-- SBC (Thumb), ALU operation, low registers: R540. -/
  | tSbc (lm ld : LowReg)
  /-- ROR (Thumb), ALU operation, low registers: R541. -/
  | tRor (lm ld : LowReg)
  /-- TST (Thumb), ALU operation, low registers: R542. -/
  | tTst (lm ln : LowReg)
  /-- NEG (Thumb), ALU operation, low registers: R543. -/
  | tNeg (lm ld : LowReg)
  /-- CMP (Thumb), ALU operation, low registers: R544. -/
  | tCmpReg (lm ln : LowReg)
  /-- CMN (Thumb), ALU operation, low registers: R545. -/
  | tCmn (lm ln : LowReg)
  /-- ORR (Thumb), ALU operation, low registers: R546. -/
  | tOrr (lm ld : LowReg)
  /-- MUL (Thumb), ALU operation, low registers: R547. -/
  | tMul (lm ld : LowReg)
  /-- BIC (Thumb), ALU operation, low registers: R548. -/
  | tBic (lm ld : LowReg)
  /-- MVN (Thumb), ALU operation, low registers: R549. -/
  | tMvn (lm ld : LowReg)
  /-- ADD (Thumb), ADD with a high register: R560. -/
  | tAddHigh (rd rm : RegNum)
  /-- CMP (Thumb), CMP with a high register: R562. -/
  | tCmpHigh (rn rm : RegNum)
  /-- CPY (Thumb), CPY Ld, Lm: R563. -/
  | tCpy (ld lm : LowReg)
  /-- MOV (Thumb), MOV with a high register: R561. -/
  | tMovHigh (rd rm : RegNum)
  /-- BX (Thumb), BX Rm: R626. -/
  | tBx (rm : RegNum)
  /-- BLX (Thumb), BLX Rm: R627. -/
  | tBlxReg (rm : RegNum)
  /-- LDR (Thumb), LDR Ld, [pc, #immed8*4]: R605. -/
  | tLdrPc (ld : LowReg) (imm : BitVec 8)
  /-- STR (Thumb), register offset: R602. -/
  | tStrReg (lm ln ld : LowReg)
  /-- STRH (Thumb), register offset: R603. -/
  | tStrhReg (lm ln ld : LowReg)
  /-- STRB (Thumb), register offset: R604. -/
  | tStrbReg (lm ln ld : LowReg)
  /-- LDRSB (Thumb), register offset: R600. -/
  | tLdrsbReg (lm ln ld : LowReg)
  /-- LDR (Thumb), register offset: R597. -/
  | tLdrReg (lm ln ld : LowReg)
  /-- LDRH (Thumb), register offset: R598. -/
  | tLdrhReg (lm ln ld : LowReg)
  /-- LDRB (Thumb), register offset: R599. -/
  | tLdrbReg (lm ln ld : LowReg)
  /-- LDRSH (Thumb), register offset: R601. -/
  | tLdrshReg (lm ln ld : LowReg)
  /-- STR (Thumb), STR Ld, [Ln, #immed5*4]: R592. -/
  | tStrImm (imm : BitVec 5) (ln ld : LowReg)
  /-- LDR (Thumb), LDR Ld, [Ln, #immed5*4]: R591. -/
  | tLdrImm (imm : BitVec 5) (ln ld : LowReg)
  /-- STRB (Thumb), STRB Ld, [Ln, #immed5]: R594. -/
  | tStrbImm (imm : BitVec 5) (ln ld : LowReg)
  /-- LDRB (Thumb), LDRB Ld, [Ln, #immed5]: R593. -/
  | tLdrbImm (imm : BitVec 5) (ln ld : LowReg)
  /-- STRH (Thumb), STRH Ld, [Ln, #immed5*2]: R596. -/
  | tStrhImm (imm : BitVec 5) (ln ld : LowReg)
  /-- LDRH (Thumb), LDRH Ld, [Ln, #immed5*2]: R595. -/
  | tLdrhImm (imm : BitVec 5) (ln ld : LowReg)
  /-- STR (Thumb), STR Ld, [sp, #immed8*4]: R607. -/
  | tStrSp (ld : LowReg) (imm : BitVec 8)
  /-- LDR (Thumb), LDR Ld, [sp, #immed8*4]: R606. -/
  | tLdrSp (ld : LowReg) (imm : BitVec 8)
  /-- ADD (Thumb), ADD Ld, pc, #immed8*4: R564. -/
  | tAddPc (ld : LowReg) (imm : BitVec 8)
  /-- ADD (Thumb), ADD Ld, sp, #immed8*4: R565. -/
  | tAddSp (ld : LowReg) (imm : BitVec 8)
  /-- ADD (Thumb), ADD sp, #immed7*4: R566. -/
  | tAddSpImm (imm : BitVec 7)
  /-- SUB (Thumb), SUB sp, #immed7*4: R567. -/
  | tSubSpImm (imm : BitVec 7)
  /-- SXTH (Thumb), extend: R550. -/
  | tSxth (lm ld : LowReg)
  /-- SXTB (Thumb), extend: R551. -/
  | tSxtb (lm ld : LowReg)
  /-- UXTH (Thumb), extend: R552. -/
  | tUxth (lm ld : LowReg)
  /-- UXTB (Thumb), extend: R553. -/
  | tUxtb (lm ld : LowReg)
  /-- REV (Thumb), byte reverse: R554. -/
  | tRev (lm ld : LowReg)
  /-- REV16 (Thumb), byte reverse: R555. -/
  | tRev16 (lm ld : LowReg)
  /-- REVSH (Thumb), byte reverse: R556. -/
  | tRevsh (lm ld : LowReg)
  /-- PUSH (Thumb), push registers: R610. -/
  | tPush (r : Bool) (list : BitVec 8)
  /-- POP (Thumb), pop registers: R611. -/
  | tPop (r : Bool) (list : BitVec 8)
  /-- SETEND (Thumb), set data endianness: R643. -/
  | tSetend (e : Bool)
  /-- CPS (Thumb), CPSIE/CPSID <flags>: R642. -/
  | tCps (disable a i f : Bool)
  /-- BKPT (Thumb), breakpoint: R641. -/
  | tBkpt (imm : BitVec 8)
  /-- STMIA (Thumb), store multiple increment after: R613. -/
  | tStmia (ln : LowReg) (list : BitVec 8)
  /-- LDMIA (Thumb), load multiple increment after: R612. -/
  | tLdmia (ln : LowReg) (list : BitVec 8)
  /-- B<cond> (Thumb), conditional branch: R620. -/
  | tBCond (c : Cond) (offset : BitVec 8)
  /-- UNDEFINED (Thumb), undefined and expected to remain so: R622. -/
  | tUndefined (imm : BitVec 8)
  /-- SWI (Thumb), software interrupt: R640. -/
  | tSwi (imm : BitVec 8)
  /-- B (Thumb), unconditional branch: R621. -/
  | tB (offset : BitVec 11)
  /-- BLX (Thumb), BLX <address22>, second halfword: R632. -/
  | tBlxSuffix (offset : BitVec 10)
  /-- BL_BLX_prefix (Thumb), BL or BLX <address22>, first halfword: R630. -/
  | tBlBlxPrefix (poff : BitVec 11)
  /-- BL (Thumb), BL <address22>, second halfword: R631. -/
  | tBlSuffix (offset : BitVec 11)
  /-- BL (Thumb), BL <address22>: prefix and second halfword, one instruction: R631. -/
  | tBl (poff offset : BitVec 11)
  /-- BLX (Thumb), BLX <address22>: prefix and second halfword, one instruction: R632. -/
  | tBlx (poff : BitVec 11) (offset : BitVec 10)
deriving DecidableEq, Repr

end Sys2Proof
end

