-- ==== Sys2Proof/WellFormed.lean ====
section
/-! DEFINITION. The checks of an instruction beyond the ranges of its fields: the `constraints` of
spec/opcode_table.json, which make its rows pairwise disjoint (R159). An instruction that fails its check has no
encoding of its own. The "must not" restrictions of the rules are not here: those instructions are encoded, and their
meanings stop (log 14). -/

namespace Sys2Proof

/-- Rn = 1111 selects the form without accumulate (R150, R151, R159 (c)). -/
def accumulates (rn : RegNum) : Bool := rn != 15

/-- At least one register of a Thumb high-register form is high: H:G is not 00 (R164). -/
def someHigh (a b : RegNum) : Bool := decide (8 ≤ a.val) || decide (8 ≤ b.val)

/-- CPSIE and CPSID with a flag letter, and a mode only with M = 1 (R300). -/
def cpsFlagsListed (m a i f : Bool) (mode : BitVec 5) : Bool := (a || i || f) && (m || mode == 0)

/-- The constraint of the instruction's row; `true` where the row has none. -/
def Instr.wellFormed : Instr → Bool
  | .sxtab16 _ rn _ _ _ | .sxtab _ rn _ _ _ | .sxtah _ rn _ _ _ => accumulates rn
  | .uxtab16 _ rn _ _ _ | .uxtab _ rn _ _ _ | .uxtah _ rn _ _ _ => accumulates rn
  | .smlad _ _ rn _ _ _ | .smlsd _ _ rn _ _ _ | .smmla _ _ rn _ _ _ => accumulates rn
  | .usada8 _ _ rn _ _ => accumulates rn
  | .cpsFlags _ m a i f mode => cpsFlagsListed m a i f mode
  | .tAddHigh rd rm | .tMovHigh rd rm => someHigh rd rm
  | .tCmpHigh rn rm => someHigh rn rm
  | .tBCond c _ => c != .al
  | _ => true

/-- The instruction meets its row's constraints. -/
def Instr.WellFormed (i : Instr) : Prop := i.wellFormed = true

end Sys2Proof
end

