-- ==== Sys2Proof/Decode.lean ====
section
/-! DEFINITION. Decoding and encoding (spec/30_encoding.md). `decode` reads an instruction from bytes and refuses by
name what no row of spec/opcode_table.json matches; `encode` lays an instruction out as bytes. Instructions are
little-endian in memory whatever `cpsr.E` is (R102). -/

namespace Sys2Proof

/-- Why no instruction was read. -/
inductive DecodeError where
  /-- Fewer bytes than the instruction set's unit. -/
  | truncated
  /-- An ARM word that matches no row (R158). -/
  | unlistedArm (w : Word)
  /-- A Thumb halfword that matches no row (R173). -/
  | unlistedThumb (h : Half)
deriving DecidableEq, Repr

/-! ## Fields -/

/-- The condition field, bits 31:28 (R133); `none` for 1111, the unconditional space (R134). -/
def Cond.ofBits (b : BitVec 4) : Option Cond :=
  match b.toNat with
  | 0 => some .eq | 1 => some .ne | 2 => some .cs | 3 => some .cc
  | 4 => some .mi | 5 => some .pl | 6 => some .vs | 7 => some .vc
  | 8 => some .hi | 9 => some .ls | 10 => some .ge | 11 => some .lt
  | 12 => some .gt | 13 => some .le | 14 => some .al | _ => none

/-- The 4-bit encoding of a condition (R16, R133). -/
def Cond.bits : Cond → BitVec 4
  | .eq => 0 | .ne => 1 | .cs => 2 | .cc => 3 | .mi => 4 | .pl => 5 | .vs => 6 | .vc => 7
  | .hi => 8 | .ls => 9 | .ge => 10 | .lt => 11 | .gt => 12 | .le => 13 | .al => 14

/-- The shift field (Table B.4, R139). -/
def ShiftType.ofBits (b : BitVec 2) : ShiftType :=
  match b.toNat with
  | 0 => .lsl | 1 => .lsr | 2 => .asr | _ => .ror

/-- The encoding of a shift type (R139). -/
def ShiftType.bits : ShiftType → BitVec 2
  | .lsl => 0 | .lsr => 1 | .asr => 2 | .ror => 3

/-- P (bit 24) and W (bit 21) of the halfword class; P = 0 with W = 1 is in no row (R141, R362). -/
def Indexing.ofBits (p w : Bool) : Option Indexing :=
  match p, w with
  | true, false => some .offset
  | true, true => some .pre
  | false, false => some .post
  | false, true => none

/-- The P bit of a halfword-class form (R141). -/
def Indexing.p : Indexing → Bool
  | .offset | .pre => true
  | .post => false

/-- The W bit of a halfword-class form (R141). -/
def Indexing.w : Indexing → Bool
  | .pre => true
  | .offset | .post => false

/-- A register number as its field. -/
def regBits (r : RegNum) : BitVec 4 := BitVec.ofFin r

/-- A low register number as its field. -/
def lowBits (r : LowReg) : BitVec 3 := BitVec.ofFin r

/-- One bit of an encoding. -/
def bit (b : Bool) : BitVec 1 := BitVec.ofBool b

/-- The `len` bits of `w` from bit `lo` up, as a number: an index of the decoding tables (R130, R160). -/
def opAt {n : Nat} (w : BitVec n) (lo len : Nat) : Nat := (w.extractLsb' lo len).toNat

/-- Bit `i` of a word. -/
def flagAt {n : Nat} (w : BitVec n) (i : Nat) : Bool := w.extractLsb' i 1 == 1#1

/-- The register field whose lowest bit is bit `lo`. -/
def regAt {n : Nat} (w : BitVec n) (lo : Nat) : RegNum := (w.extractLsb' lo 4).toFin

/-- The 3-bit register field whose lowest bit is bit `lo`. -/
def lowAt {n : Nat} (w : BitVec n) (lo : Nat) : LowReg := (w.extractLsb' lo 3).toFin

/-- `Rm {, <imm_shift>}`: bits 11:7, 6:5, 3:0 (R135). -/
def shiftByImmAt (w : Word) : ShiftByImm :=
  ⟨w.extractLsb' 7 5, ShiftType.ofBits (w.extractLsb' 5 2), regAt w 0⟩

/-- `Rm, <reg_shift>`: bits 11:8, 6:5, 3:0 (R136). -/
def shiftByRegAt (w : Word) : ShiftByReg :=
  ⟨regAt w 8, ShiftType.ofBits (w.extractLsb' 5 2), regAt w 0⟩

/-- `#<rotated_immed>`: bits 11:8, 7:0 (R137). -/
def rotatedImmAt (w : Word) : RotatedImm := ⟨w.extractLsb' 8 4, w.extractLsb' 0 8⟩

/-- An instruction read only where a field has the value the row fixes (R158). -/
def onlyIf (ok : Bool) (i : Instr) : Option Instr := if ok then some i else none

/-! ## ARM: data processing (R135 to R138) -/

/-- The sixteen operations: opcode, S, Rn, Rd around the second operand (R135 to R137). -/
def decodeDp (c : Cond) (w : Word) (op : Operand2) : Option Instr :=
  let s := flagAt w 20; let rn := regAt w 16; let rd := regAt w 12
  match opAt w 21 4 with
  | 0 => some (.and c s rn rd op)
  | 1 => some (.eor c s rn rd op)
  | 2 => some (.sub c s rn rd op)
  | 3 => some (.rsb c s rn rd op)
  | 4 => some (.add c s rn rd op)
  | 5 => some (.adc c s rn rd op)
  | 6 => some (.sbc c s rn rd op)
  | 7 => some (.rsc c s rn rd op)
  | 8 => onlyIf (s && rd == 0) (.tst c rn op)
  | 9 => onlyIf (s && rd == 0) (.teq c rn op)
  | 10 => onlyIf (s && rd == 0) (.cmp c rn op)
  | 11 => onlyIf (s && rd == 0) (.cmn c rn op)
  | 12 => some (.orr c s rn rd op)
  | 13 => onlyIf (rn == 0) (.mov c s rd op)
  | 14 => some (.bic c s rn rd op)
  | _ => onlyIf (rn == 0) (.mvn c s rd op)

/-- Bits 24:23 = 10 with S = 0: the compare opcodes without S hold other instructions (R138). -/
def inMiscSpace (w : Word) : Bool := opAt w 23 2 == 2 && !flagAt w 20

/-! ## ARM: the other instructions of bits 27:25 = 000 (R140 to R146) -/

/-- Multiplies, swaps and exclusives: bits 7:4 = 1001 (R140, R146). -/
def decodeMulSwap (c : Cond) (w : Word) : Option Instr :=
  let s := flagAt w 20; let a := regAt w 16; let b := regAt w 12; let rs := regAt w 8; let rm := regAt w 0
  match flagAt w 24, opAt w 21 3 with
  | false, 0 => onlyIf (b == 0) (.mul c s a rs rm)
  | false, 1 => some (.mla c s a b rs rm)
  | false, 2 => onlyIf (!s) (.umaal c a b rs rm)
  | false, 3 => none
  | false, 4 => some (.umull c s a b rs rm)
  | false, 5 => some (.umlal c s a b rs rm)
  | false, 6 => some (.smull c s a b rs rm)
  | false, _ => some (.smlal c s a b rs rm)
  | true, 0 => onlyIf (!s && rs == 0) (.swp c a b rm)
  | true, 2 => onlyIf (!s && rs == 0) (.swpb c a b rm)
  | true, 4 =>
    if s then onlyIf (rs == 15 && rm == 15) (.ldrex c a b) else onlyIf (rs == 15) (.strex c a b rm)
  | true, _ => none

/-- The six halfword, signed-byte and doubleword transfers around their offset (R141). -/
def decodeHalfOp (c : Cond) (idx : Indexing) (w : Word) (off : HalfOffset) : Option Instr :=
  let u := flagAt w 23; let rn := regAt w 16; let rd := regAt w 12
  match flagAt w 20, opAt w 5 2 with
  | false, 1 => some (.strh c idx u rn rd off)
  | true, 1 => some (.ldrh c idx u rn rd off)
  | false, 2 => some (.ldrd c idx u rn rd off)
  | false, 3 => some (.strd c idx u rn rd off)
  | true, 2 => some (.ldrsb c idx u rn rd off)
  | true, 3 => some (.ldrsh c idx u rn rd off)
  | _, _ => none

/-- Halfword, signed-byte and doubleword transfers: an immediate offset in bits 11:8 and 3:0, or a register offset with
bits 11:8 = 0000 (R141). -/
def decodeHalf (c : Cond) (w : Word) : Option Instr :=
  match Indexing.ofBits (flagAt w 24) (flagAt w 21) with
  | none => none
  | some idx =>
    if flagAt w 22 then decodeHalfOp c idx w (.imm (w.extractLsb' 8 4 ++ w.extractLsb' 0 4))
    else if opAt w 8 4 == 0 then decodeHalfOp c idx w (.reg (regAt w 0))
    else none

/-- Branch-exchange, CLZ, saturating add and subtract, BKPT: bit 4 = 1, or BXJ (R143, R144). -/
def decodeMisc (c : Cond) (w : Word) : Option Instr :=
  let rn := regAt w 16; let rd := regAt w 12; let rm := regAt w 0
  match opAt w 4 4, opAt w 21 2 with
  | 1, 1 => onlyIf (opAt w 8 12 == 0xFFF) (.bx c rm)
  | 2, 1 => onlyIf (opAt w 8 12 == 0xFFF) (.bxj c rm)
  | 3, 1 => onlyIf (opAt w 8 12 == 0xFFF) (.blxReg c rm)
  | 1, 3 => onlyIf (rn == 15 && opAt w 8 4 == 15) (.clz c rd rm)
  | 5, 0 => onlyIf (opAt w 8 4 == 0) (.qadd c rn rd rm)
  | 5, 1 => onlyIf (opAt w 8 4 == 0) (.qsub c rn rd rm)
  | 5, 2 => onlyIf (opAt w 8 4 == 0) (.qdadd c rn rd rm)
  | 5, 3 => onlyIf (opAt w 8 4 == 0) (.qdsub c rn rd rm)
  | 7, 1 => onlyIf (c == .al) (.bkpt (w.extractLsb' 8 12 ++ w.extractLsb' 0 4))
  | _, _ => none

/-- MRS and MSR, register forms: bits 7:4 = 0000 (R142). -/
def decodeStatus (c : Cond) (w : Word) : Option Instr :=
  let fields := w.extractLsb' 16 4; let rd := regAt w 12; let rm := regAt w 0
  match opAt w 21 2 with
  | 0 => onlyIf (opAt w 16 4 == 15 && opAt w 0 12 == 0) (.mrsCpsr c rd)
  | 1 => onlyIf (opAt w 4 12 == 0xF00) (.msrCpsr c fields (.reg rm))
  | 2 => onlyIf (opAt w 16 4 == 15 && opAt w 0 12 == 0) (.mrsSpsr c rd)
  | _ => onlyIf (opAt w 4 12 == 0xF00) (.msrSpsr c fields (.reg rm))

/-- Signed halfword multiplies: bit 7 = 1, bit 4 = 0 (R145). -/
def decodeHalfMul (c : Cond) (w : Word) : Option Instr :=
  let a := regAt w 16; let b := regAt w 12; let rs := regAt w 8; let rm := regAt w 0
  let y := flagAt w 6; let x := flagAt w 5
  match opAt w 21 2 with
  | 0 => some (.smlaxy c a b rs y x rm)
  | 1 => if x then onlyIf (b == 0) (.smulwy c a rs y rm) else some (.smlawy c a b rs y rm)
  | 2 => some (.smlalxy c a b rs y x rm)
  | _ => onlyIf (b == 0) (.smulxy c a rs y x rm)

/-- Bits 27:25 = 000 (R132). -/
def decodeClass0 (c : Cond) (w : Word) : Option Instr :=
  if flagAt w 4 then
    if flagAt w 7 then
      if opAt w 5 2 == 0 then decodeMulSwap c w else decodeHalf c w
    else if inMiscSpace w then decodeMisc c w
    else decodeDp c w (.shiftReg (shiftByRegAt w))
  else if inMiscSpace w then
    if flagAt w 7 then decodeHalfMul c w
    else if opAt w 4 4 == 0 then decodeStatus c w
    else decodeMisc c w
  else decodeDp c w (.shiftImm (shiftByImmAt w))

/-- Bits 27:25 = 001: immediate data processing and MSR immediate (R137, R142). -/
def decodeClass1 (c : Cond) (w : Word) : Option Instr :=
  if inMiscSpace w then
    match opAt w 21 2 with
    | 1 => onlyIf (opAt w 12 4 == 15) (.msrCpsr c (w.extractLsb' 16 4) (.imm (rotatedImmAt w)))
    | 3 => onlyIf (opAt w 12 4 == 15) (.msrSpsr c (w.extractLsb' 16 4) (.imm (rotatedImmAt w)))
    | _ => none
  else decodeDp c w (.imm (rotatedImmAt w))

/-! ## ARM: word and byte transfers (R147) -/

/-- P (bit 24) and W (bit 21) of the word and byte class; P = 0 with W = 1 is the T suffix (R147). -/
def wordForm (w : Word) : Option Indexing := Indexing.ofBits (flagAt w 24) (flagAt w 21)

/-- The eight word and byte transfers around their offset (R147). -/
def decodeWord (c : Cond) (w : Word) (off : WordOffset) : Instr :=
  let u := flagAt w 23; let rn := regAt w 16; let rd := regAt w 12
  match wordForm w, flagAt w 22, flagAt w 20 with
  | some idx, false, false => .str c idx u rn rd off
  | some idx, false, true => .ldr c idx u rn rd off
  | some idx, true, false => .strb c idx u rn rd off
  | some idx, true, true => .ldrb c idx u rn rd off
  | none, false, false => .strt c u rn rd off
  | none, false, true => .ldrt c u rn rd off
  | none, true, false => .strbt c u rn rd off
  | none, true, true => .ldrbt c u rn rd off

/-! ## ARM: media (R148 to R151) -/

/-- Parallel add and subtract: bits 27:23 = 01100 (R148). -/
def decodeParallel (c : Cond) (w : Word) : Option Instr :=
  let rn := regAt w 16; let rd := regAt w 12; let rm := regAt w 0
  if opAt w 8 4 != 15 then none
  else match opAt w 20 3, opAt w 5 3 with
  | 1, 0 => some (.sadd16 c rn rd rm)
  | 1, 1 => some (.saddsubx c rn rd rm)
  | 1, 2 => some (.ssubaddx c rn rd rm)
  | 1, 3 => some (.ssub16 c rn rd rm)
  | 1, 4 => some (.sadd8 c rn rd rm)
  | 1, 7 => some (.ssub8 c rn rd rm)
  | 2, 0 => some (.qadd16 c rn rd rm)
  | 2, 1 => some (.qaddsubx c rn rd rm)
  | 2, 2 => some (.qsubaddx c rn rd rm)
  | 2, 3 => some (.qsub16 c rn rd rm)
  | 2, 4 => some (.qadd8 c rn rd rm)
  | 2, 7 => some (.qsub8 c rn rd rm)
  | 3, 0 => some (.shadd16 c rn rd rm)
  | 3, 1 => some (.shaddsubx c rn rd rm)
  | 3, 2 => some (.shsubaddx c rn rd rm)
  | 3, 3 => some (.shsub16 c rn rd rm)
  | 3, 4 => some (.shadd8 c rn rd rm)
  | 3, 7 => some (.shsub8 c rn rd rm)
  | 5, 0 => some (.uadd16 c rn rd rm)
  | 5, 1 => some (.uaddsubx c rn rd rm)
  | 5, 2 => some (.usubaddx c rn rd rm)
  | 5, 3 => some (.usub16 c rn rd rm)
  | 5, 4 => some (.uadd8 c rn rd rm)
  | 5, 7 => some (.usub8 c rn rd rm)
  | 6, 0 => some (.uqadd16 c rn rd rm)
  | 6, 1 => some (.uqaddsubx c rn rd rm)
  | 6, 2 => some (.uqsubaddx c rn rd rm)
  | 6, 3 => some (.uqsub16 c rn rd rm)
  | 6, 4 => some (.uqadd8 c rn rd rm)
  | 6, 7 => some (.uqsub8 c rn rd rm)
  | 7, 0 => some (.uhadd16 c rn rd rm)
  | 7, 1 => some (.uhaddsubx c rn rd rm)
  | 7, 2 => some (.uhsubaddx c rn rd rm)
  | 7, 3 => some (.uhsub16 c rn rd rm)
  | 7, 4 => some (.uhadd8 c rn rd rm)
  | 7, 7 => some (.uhsub8 c rn rd rm)
  | _, _ => none

/-- Extends, with Rn = 1111 the forms without accumulate: bits 9:4 = 000111 (R150). -/
def decodeExtend (c : Cond) (w : Word) : Option Instr :=
  let rn := regAt w 16; let rd := regAt w 12; let rot := w.extractLsb' 10 2; let rm := regAt w 0
  match opAt w 20 3, rn == 15 with
  | 0, false => some (.sxtab16 c rn rd rot rm)
  | 0, true => some (.sxtb16 c rd rot rm)
  | 2, false => some (.sxtab c rn rd rot rm)
  | 2, true => some (.sxtb c rd rot rm)
  | 3, false => some (.sxtah c rn rd rot rm)
  | 3, true => some (.sxth c rd rot rm)
  | 4, false => some (.uxtab16 c rn rd rot rm)
  | 4, true => some (.uxtb16 c rd rot rm)
  | 6, false => some (.uxtab c rn rd rot rm)
  | 6, true => some (.uxtb c rd rot rm)
  | 7, false => some (.uxtah c rn rd rot rm)
  | 7, true => some (.uxth c rd rot rm)
  | _, _ => none

/-- Pack, saturate, select, reverse, extend: bits 27:23 = 01101 (R149, R150). -/
def decodePack (c : Cond) (w : Word) : Option Instr :=
  let rn := regAt w 16; let rd := regAt w 12; let rm := regAt w 0; let amount := w.extractLsb' 7 5
  match opAt w 4 2 with
  | 1 =>
    match opAt w 21 2 with
    | 0 =>
      if flagAt w 20 then none
      else if flagAt w 6 then some (.pkhtb c rn rd amount rm) else some (.pkhbt c rn rd amount rm)
    | 1 => some (.ssat c (w.extractLsb' 16 5) rd amount (flagAt w 6) rm)
    | 3 => some (.usat c (w.extractLsb' 16 5) rd amount (flagAt w 6) rm)
    | _ => none
  | 3 =>
    if flagAt w 6 then (if opAt w 7 3 == 0 then decodeExtend c w else none)
    else if opAt w 8 4 != 15 then none
    else match opAt w 20 3, flagAt w 7 with
    | 2, false => some (.ssat16 c (w.extractLsb' 16 4) rd rm)
    | 6, false => some (.usat16 c (w.extractLsb' 16 4) rd rm)
    | 3, false => onlyIf (rn == 15) (.rev c rd rm)
    | 0, true => some (.sel c rn rd rm)
    | 3, true => onlyIf (rn == 15) (.rev16 c rd rm)
    | 7, true => onlyIf (rn == 15) (.revsh c rd rm)
    | _, _ => none
  | _ => none

/-- Dual and most significant word multiplies: bits 27:23 = 01110 (R151). -/
def decodeDualMul (c : Cond) (w : Word) : Option Instr :=
  let a := regAt w 16; let b := regAt w 12; let rs := regAt w 8; let x := flagAt w 5; let rm := regAt w 0
  match opAt w 20 3, opAt w 6 2 with
  | 0, 0 => some (if b == 15 then .smuad c a rs x rm else .smlad c a b rs x rm)
  | 0, 1 => some (if b == 15 then .smusd c a rs x rm else .smlsd c a b rs x rm)
  | 4, 0 => some (.smlald c a b rs x rm)
  | 4, 1 => some (.smlsld c a b rs x rm)
  | 5, 0 => some (if b == 15 then .smmul c a rs x rm else .smmla c a b rs x rm)
  | 5, 3 => some (.smmls c a b rs x rm)
  | _, _ => none

/-- USAD8 and USADA8: bits 27:20 = 01111000, bits 7:4 = 0001 (R151). -/
def decodeSad (c : Cond) (w : Word) : Option Instr :=
  let a := regAt w 16; let b := regAt w 12; let rs := regAt w 8; let rm := regAt w 0
  if opAt w 20 3 == 0 && opAt w 5 3 == 0 then
    some (if b == 15 then .usad8 c a rs rm else .usada8 c a b rs rm)
  else none

/-- Bits 27:25 = 011, bit 4 = 1 (R148 to R151). -/
def decodeMedia (c : Cond) (w : Word) : Option Instr :=
  match opAt w 23 2 with
  | 0 => decodeParallel c w
  | 1 => decodePack c w
  | 2 => decodeDualMul c w
  | _ => decodeSad c w

/-! ## ARM: block transfers, branches, coprocessors, SWI (R152 to R156) -/

/-- Bits 27:25 = 100 (R152). -/
def decodeBlock (c : Cond) (w : Word) : Option Instr :=
  let p := flagAt w 24; let u := flagAt w 23; let wb := flagAt w 21; let rn := regAt w 16
  match flagAt w 22, flagAt w 20 with
  | false, true => some (.ldm c p u wb rn (w.extractLsb' 0 16))
  | false, false => some (.stm c p u wb rn (w.extractLsb' 0 16))
  | true, true =>
    some (if flagAt w 15 then .ldmReturn c p u wb rn (w.extractLsb' 0 15) else .ldmUser c p u wb rn (w.extractLsb' 0 15))
  | true, false => some (.stmUser c p u wb rn (w.extractLsb' 0 16))

/-- The addressing form of LDC and STC (R154, R284); `none` for P U W = 000, the space of MCRR and MRRC (R159 (d)). -/
def cpAddressingAt (w : Word) : Option CpAddressing :=
  let u := flagAt w 23; let imm := w.extractLsb' 0 8
  match flagAt w 24, flagAt w 21 with
  | true, false => some (.indexed .offset u imm)
  | true, true => some (.indexed .pre u imm)
  | false, true => some (.indexed .post u imm)
  | false, false => if u then some (.unindexed imm) else none

/-- Bits 27:25 = 110: LDC, STC, MCRR, MRRC (R154, R159 (d)). -/
def decodeCpTransfer (c : Cond) (w : Word) : Option Instr :=
  let n := flagAt w 22; let rn := regAt w 16; let cd := regAt w 12; let cp := regAt w 8
  match cpAddressingAt w, flagAt w 20 with
  | some addr, false => some (.stc c n rn cd cp addr)
  | some addr, true => some (.ldc c n rn cd cp addr)
  | none, false => onlyIf n (.mcrr c rn cd cp (w.extractLsb' 4 4) (regAt w 0))
  | none, true => onlyIf n (.mrrc c rn cd cp (w.extractLsb' 4 4) (regAt w 0))

/-- Bits 27:24 = 1110: CDP, MCR, MRC (R155). -/
def decodeCpOp (c : Cond) (w : Word) : Option Instr :=
  let cn := regAt w 16; let d := regAt w 12; let cp := regAt w 8; let op2 := w.extractLsb' 5 3; let cm := regAt w 0
  if !flagAt w 4 then some (.cdp c (w.extractLsb' 20 4) cn d cp op2 cm)
  else if flagAt w 20 then some (.mrc c (w.extractLsb' 21 3) cn d cp op2 cm)
  else some (.mcr c (w.extractLsb' 21 3) cn d cp op2 cm)

/-! ## ARM: the unconditional space, bits 31:28 = 1111 (R134) -/

/-- CPS and SETEND: bits 27:20 = 00010000 (R134, R300, R309). -/
def decodeCpsSetend (w : Word) : Option Instr :=
  if flagAt w 16 then
    onlyIf (opAt w 17 3 == 0 && opAt w 10 6 == 0 && opAt w 0 9 == 0) (.setend (flagAt w 9))
  else if opAt w 9 7 != 0 || flagAt w 5 then none
  else
    let m := flagAt w 17; let a := flagAt w 8; let i := flagAt w 7; let f := flagAt w 6
    let mode := w.extractLsb' 0 5
    if flagAt w 19 then onlyIf (cpsFlagsListed m a i f mode) (.cpsFlags (flagAt w 18) m a i f mode)
    else onlyIf (!flagAt w 18 && m && !a && !i && !f) (.cpsMode mode)

/-- RFE and SRS: bits 27:25 = 100 (R134). -/
def decodeRfeSrs (w : Word) : Option Instr :=
  let p := flagAt w 24; let u := flagAt w 23; let wb := flagAt w 21
  match flagAt w 22, flagAt w 20 with
  | false, true => onlyIf (opAt w 0 16 == 0x0A00) (.rfe p u wb (regAt w 16))
  | true, false => onlyIf (opAt w 5 15 == 0x6828) (.srs p u wb (w.extractLsb' 0 5))
  | _, _ => none

/-- LDC2, STC2, MCRR2, MRRC2: bits 27:25 = 110 (R134). -/
def decodeCpTransfer2 (w : Word) : Option Instr :=
  let n := flagAt w 22; let rn := regAt w 16; let cd := regAt w 12; let cp := regAt w 8
  match cpAddressingAt w, flagAt w 20 with
  | some addr, false => some (.stc2 n rn cd cp addr)
  | some addr, true => some (.ldc2 n rn cd cp addr)
  | none, false => onlyIf n (.mcrr2 rn cd cp (w.extractLsb' 4 4) (regAt w 0))
  | none, true => onlyIf n (.mrrc2 rn cd cp (w.extractLsb' 4 4) (regAt w 0))

/-- CDP2, MCR2, MRC2: bits 27:24 = 1110 (R134). -/
def decodeCpOp2 (w : Word) : Option Instr :=
  let cn := regAt w 16; let d := regAt w 12; let cp := regAt w 8; let op2 := w.extractLsb' 5 3; let cm := regAt w 0
  if !flagAt w 4 then some (.cdp2 (w.extractLsb' 20 4) cn d cp op2 cm)
  else if flagAt w 20 then some (.mrc2 (w.extractLsb' 21 3) cn d cp op2 cm)
  else some (.mcr2 (w.extractLsb' 21 3) cn d cp op2 cm)

/-- Bits 31:28 = 1111 (R134). -/
def decodeUnconditional (w : Word) : Option Instr :=
  let u := flagAt w 23; let rn := regAt w 16
  match opAt w 25 3 with
  | 0 => if opAt w 20 5 == 16 then decodeCpsSetend w else none
  | 2 =>
    onlyIf (flagAt w 24 && opAt w 20 3 == 5 && opAt w 12 4 == 15) (.pld u rn (.imm (w.extractLsb' 0 12)))
  | 3 =>
    onlyIf (flagAt w 24 && opAt w 20 3 == 5 && opAt w 12 4 == 15 && !flagAt w 4) (.pld u rn (.reg (shiftByImmAt w)))
  | 4 => decodeRfeSrs w
  | 5 => some (.blxImm (flagAt w 24) (w.extractLsb' 0 24))
  | 6 => decodeCpTransfer2 w
  | 7 => if flagAt w 24 then none else decodeCpOp2 w
  | _ => none

/-- The ARM decoder (R130, R132): the instruction of a word, `none` where it matches no row (R158). -/
def decodeArm (w : Word) : Option Instr :=
  match Cond.ofBits (w.extractLsb' 28 4) with
  | none => decodeUnconditional w
  | some c =>
    match opAt w 25 3 with
    | 0 => decodeClass0 c w
    | 1 => decodeClass1 c w
    | 2 => some (decodeWord c w (.imm (w.extractLsb' 0 12)))
    | 3 => if flagAt w 4 then decodeMedia c w else some (decodeWord c w (.reg (shiftByImmAt w)))
    | 4 => decodeBlock c w
    | 5 => some (if flagAt w 24 then .bl c (w.extractLsb' 0 24) else .b c (w.extractLsb' 0 24))
    | 6 => decodeCpTransfer c w
    | _ => if flagAt w 24 then some (.swi c (w.extractLsb' 0 24)) else decodeCpOp c w

/-! ## Thumb (R160 to R173) -/

/-- The sixteen ALU operations: bits 15:10 = 010000 (R163). -/
def decodeThumbAlu (h : Half) : Instr :=
  let m := lowAt h 3; let d := lowAt h 0
  match opAt h 6 4 with
  | 0 => .tAnd m d | 1 => .tEor m d | 2 => .tLslReg m d | 3 => .tLsrReg m d
  | 4 => .tAsrReg m d | 5 => .tAdc m d | 6 => .tSbc m d | 7 => .tRor m d
  | 8 => .tTst m d | 9 => .tNeg m d | 10 => .tCmpReg m d | 11 => .tCmn m d
  | 12 => .tOrr m d | 13 => .tMul m d | 14 => .tBic m d | _ => .tMvn m d

/-- High-register operations and branch-exchange: bits 15:10 = 010001 (R164). -/
def decodeThumbHigh (h : Half) : Option Instr :=
  let d : RegNum := (h.extractLsb' 7 1 ++ h.extractLsb' 0 3 : BitVec 4).toFin; let m := regAt h 3
  match opAt h 8 2 with
  | 0 => onlyIf (someHigh d m) (.tAddHigh d m)
  | 1 => onlyIf (someHigh d m) (.tCmpHigh d m)
  | 2 => some (if someHigh d m then .tMovHigh d m else .tCpy (lowAt h 0) (lowAt h 3))
  | _ => onlyIf (opAt h 0 3 == 0) (if flagAt h 7 then .tBlxReg m else .tBx m)

/-- Miscellaneous: bits 15:11 = 10110 (R169). -/
def decodeThumbMisc0 (h : Half) : Option Instr :=
  let m := lowAt h 3; let d := lowAt h 0
  if opAt h 9 2 == 2 then some (.tPush (flagAt h 8) (h.extractLsb' 0 8))
  else match opAt h 8 3 with
  | 0 => some (if flagAt h 7 then .tSubSpImm (h.extractLsb' 0 7) else .tAddSpImm (h.extractLsb' 0 7))
  | 2 =>
    some (match opAt h 6 2 with | 0 => .tSxth m d | 1 => .tSxtb m d | 2 => .tUxth m d | _ => .tUxtb m d)
  | 6 =>
    match opAt h 5 3 with
    | 2 => onlyIf (opAt h 4 1 == 1 && opAt h 0 3 == 0) (.tSetend (flagAt h 3))
    | 3 => onlyIf (!flagAt h 3) (.tCps (flagAt h 4) (flagAt h 2) (flagAt h 1) (flagAt h 0))
    | _ => none
  | _ => none

/-- Miscellaneous: bits 15:11 = 10111 (R169). -/
def decodeThumbMisc1 (h : Half) : Option Instr :=
  let m := lowAt h 3; let d := lowAt h 0
  if opAt h 9 2 == 2 then some (.tPop (flagAt h 8) (h.extractLsb' 0 8))
  else match opAt h 8 3 with
  | 2 => match opAt h 6 2 with
    | 0 => some (.tRev m d) | 1 => some (.tRev16 m d) | 3 => some (.tRevsh m d) | _ => none
  | 6 => some (.tBkpt (h.extractLsb' 0 8))
  | _ => none

/-- Conditional branch, undefined, SWI: bits 15:12 = 1101 (R171). -/
def decodeThumbCond (h : Half) : Option Instr :=
  match opAt h 8 4 with
  | 14 => some (.tUndefined (h.extractLsb' 0 8))
  | 15 => some (.tSwi (h.extractLsb' 0 8))
  | _ => (Cond.ofBits (h.extractLsb' 8 4)).map fun c => .tBCond c (h.extractLsb' 0 8)

/-- One Thumb halfword (R160); a BL or BLX half decodes to the half alone. `none` where it matches no row (R173). -/
def decodeThumbHalf (h : Half) : Option Instr :=
  let imm5 := h.extractLsb' 6 5; let imm8 := h.extractLsb' 0 8
  let a := lowAt h 8; let m := lowAt h 6; let n := lowAt h 3; let d := lowAt h 0
  if opAt h 12 4 == 13 then decodeThumbCond h
  else match opAt h 11 5 with
  | 0 => some (.tLslImm imm5 n d)
  | 1 => some (.tLsrImm imm5 n d)
  | 2 => some (.tAsrImm imm5 n d)
  | 3 => some (match opAt h 9 2 with
    | 0 => .tAddReg m n d | 1 => .tSubReg m n d
    | 2 => .tAddImm3 (h.extractLsb' 6 3) n d | _ => .tSubImm3 (h.extractLsb' 6 3) n d)
  | 4 => some (.tMovImm a imm8)
  | 5 => some (.tCmpImm a imm8)
  | 6 => some (.tAddImm8 a imm8)
  | 7 => some (.tSubImm8 a imm8)
  | 8 => if flagAt h 10 then decodeThumbHigh h else some (decodeThumbAlu h)
  | 9 => some (.tLdrPc a imm8)
  | 10 => some (match opAt h 9 2 with
    | 0 => .tStrReg m n d | 1 => .tStrhReg m n d | 2 => .tStrbReg m n d | _ => .tLdrsbReg m n d)
  | 11 => some (match opAt h 9 2 with
    | 0 => .tLdrReg m n d | 1 => .tLdrhReg m n d | 2 => .tLdrbReg m n d | _ => .tLdrshReg m n d)
  | 12 => some (.tStrImm imm5 n d)
  | 13 => some (.tLdrImm imm5 n d)
  | 14 => some (.tStrbImm imm5 n d)
  | 15 => some (.tLdrbImm imm5 n d)
  | 16 => some (.tStrhImm imm5 n d)
  | 17 => some (.tLdrhImm imm5 n d)
  | 18 => some (.tStrSp a imm8)
  | 19 => some (.tLdrSp a imm8)
  | 20 => some (.tAddPc a imm8)
  | 21 => some (.tAddSp a imm8)
  | 22 => decodeThumbMisc0 h
  | 23 => decodeThumbMisc1 h
  | 24 => some (.tStmia a imm8)
  | 25 => some (.tLdmia a imm8)
  | 28 => some (.tB (h.extractLsb' 0 11))
  | 29 => onlyIf (!flagAt h 0) (.tBlxSuffix (h.extractLsb' 1 10))
  | 30 => some (.tBlBlxPrefix (h.extractLsb' 0 11))
  | _ => some (.tBlSuffix (h.extractLsb' 0 11))

/-- Whether a halfword is the BL or BLX prefix: bits 15:11 = 11110 (R172). -/
def isBlPrefix (h : Half) : Bool := opAt h 11 5 == 30

/-- A prefix and the halfword after it as one BL or BLX (R172, R630); `none` where they are not a pair. -/
def decodeThumbPair (h next : Half) : Option Instr :=
  if isBlPrefix h then
    match opAt next 11 5 with
    | 31 => some (.tBl (h.extractLsb' 0 11) (next.extractLsb' 0 11))
    | 29 => onlyIf (!flagAt next 0) (.tBlx (h.extractLsb' 0 11) (next.extractLsb' 1 10))
    | _ => none
  else none

/-! ## Bytes -/

/-- The ARM instruction at the front of the bytes, and the bytes after it. -/
def decodeArmBytes : List Byte → Except DecodeError (Instr × List Byte)
  | b0 :: b1 :: b2 :: b3 :: rest =>
    let w : Word := b3 ++ b2 ++ b1 ++ b0
    match decodeArm w with
    | some i => .ok (i, rest)
    | none => .error (.unlistedArm w)
  | _ => .error .truncated

/-- One Thumb halfword and the bytes after it. -/
def decodeHalfBytes (h : Half) (rest : List Byte) : Except DecodeError (Instr × List Byte) :=
  match decodeThumbHalf h with
  | some i => .ok (i, rest)
  | none => .error (.unlistedThumb h)

/-- The Thumb instruction at the front of the bytes, and the bytes after it. A prefix with its suffix is one
instruction of four bytes (R630); every other halfword stands alone. -/
def decodeThumbBytes : List Byte → Except DecodeError (Instr × List Byte)
  | b0 :: b1 :: b2 :: b3 :: rest =>
    match decodeThumbPair (b1 ++ b0) (b3 ++ b2) with
    | some i => .ok (i, rest)
    | none => decodeHalfBytes (b1 ++ b0) (b2 :: b3 :: rest)
  | b0 :: b1 :: rest => decodeHalfBytes (b1 ++ b0) rest
  | _ => .error .truncated

/-- The decoder that `cpsr.T` selects (R174). -/
def decode (thumb : Bool) (bytes : List Byte) : Except DecodeError (Instr × List Byte) :=
  if thumb then decodeThumbBytes bytes else decodeArmBytes bytes

/-! ## Encoding -/

/-- The words of an instruction: one ARM word, one Thumb halfword, or the two halfwords of a BL or BLX pair. -/
inductive Code where
  | arm (w : Word)
  | thumb (h : Half)
  | pair (h next : Half)
deriving DecidableEq, Repr

/-- Data processing: condition, class, opcode, S, Rn, Rd, second operand (R135 to R137). -/
def dpCode (c : Cond) (opc : BitVec 4) (s : BitVec 1) (rn rd : BitVec 4) : Operand2 → Word
  | .shiftImm op => c.bits ++ 0b000#3 ++ opc ++ s ++ rn ++ rd ++ op.amount ++ op.ty.bits ++ 0b0#1 ++ regBits op.rm
  | .shiftReg op =>
    c.bits ++ 0b000#3 ++ opc ++ s ++ rn ++ rd ++ regBits op.rs ++ 0b0#1 ++ op.ty.bits ++ 0b1#1 ++ regBits op.rm
  | .imm op => c.bits ++ 0b001#3 ++ opc ++ s ++ rn ++ rd ++ op.rotate ++ op.imm

/-- Halfword, signed-byte and doubleword transfers: `l` is bit 20, `sh` bits 6:5 (R141). -/
def halfCode (c : Cond) (idx : Indexing) (u : Bool) (l : BitVec 1) (rn rd : RegNum) (sh : BitVec 2) :
    HalfOffset → Word
  | .reg rm =>
    c.bits ++ 0b000#3 ++ bit idx.p ++ bit u ++ 0b0#1 ++ bit idx.w ++ l ++ regBits rn ++ regBits rd
      ++ 0b00001#5 ++ sh ++ 0b1#1 ++ regBits rm
  | .imm imm =>
    c.bits ++ 0b000#3 ++ bit idx.p ++ bit u ++ 0b1#1 ++ bit idx.w ++ l ++ regBits rn ++ regBits rd
      ++ imm.extractLsb' 4 4 ++ 0b1#1 ++ sh ++ 0b1#1 ++ imm.extractLsb' 0 4

/-- Word and byte transfers: `p`, `b`, `wl`, `l` are bits 24, 22, 21, 20 (R147). -/
def wordCode (c : Cond) (p : BitVec 1) (u : Bool) (b wl l : BitVec 1) (rn rd : RegNum) : WordOffset → Word
  | .imm imm => c.bits ++ 0b010#3 ++ p ++ bit u ++ b ++ wl ++ l ++ regBits rn ++ regBits rd ++ imm
  | .reg op =>
    c.bits ++ 0b011#3 ++ p ++ bit u ++ b ++ wl ++ l ++ regBits rn ++ regBits rd
      ++ op.amount ++ op.ty.bits ++ 0b0#1 ++ regBits op.rm

/-- PLD (R134, R360). -/
def pldCode (u : Bool) (rn : RegNum) : WordOffset → Word
  | .imm imm => 0b11110101#8 ++ bit u ++ 0b101#3 ++ regBits rn ++ 0b1111#4 ++ imm
  | .reg op =>
    0b11110111#8 ++ bit u ++ 0b101#3 ++ regBits rn ++ 0b1111#4 ++ op.amount ++ op.ty.bits ++ 0b0#1 ++ regBits op.rm

/-- MSR: `r` is 0 for the cpsr, 1 for the spsr (R142). -/
def msrCode (c : Cond) (r : BitVec 1) (fields : BitVec 4) : MsrOperand → Word
  | .reg rm => c.bits ++ 0b00010#5 ++ r ++ 0b10#2 ++ fields ++ 0b111100000000#12 ++ regBits rm
  | .imm op => c.bits ++ 0b00110#5 ++ r ++ 0b10#2 ++ fields ++ 0b1111#4 ++ op.rotate ++ op.imm

/-- The P bit of an LDC or STC form (R154). -/
def CpAddressing.p : CpAddressing → Bool
  | .indexed idx _ _ => idx.p
  | .unindexed _ => false

/-- The U bit of an LDC or STC form (R154). -/
def CpAddressing.u : CpAddressing → Bool
  | .indexed _ u _ => u
  | .unindexed _ => true

/-- The W bit of an LDC or STC form (R154). -/
def CpAddressing.w : CpAddressing → Bool
  | .indexed .offset _ _ => false
  | .indexed _ _ _ => true
  | .unindexed _ => false

/-- Bits 7:0 of an LDC or STC form (R154). -/
def CpAddressing.low : CpAddressing → BitVec 8
  | .indexed _ _ imm => imm
  | .unindexed option => option

/-- LDC, STC and the "2" forms: `l` is bit 20 (R134, R154). -/
def cpTransferCode (c : BitVec 4) (n : Bool) (l : BitVec 1) (rn cd cp : RegNum) (a : CpAddressing) : Word :=
  c ++ 0b110#3 ++ bit a.p ++ bit a.u ++ bit n ++ bit a.w ++ l ++ regBits rn ++ regBits cd ++ regBits cp ++ a.low

/-- The words of an instruction, from the encoding of its row (R134 to R156, R161 to R172). -/
def Instr.code : Instr → Code
  | .and c s rn rd op => .arm (dpCode c 0b0000#4 (bit s) (regBits rn) (regBits rd) op)
  | .eor c s rn rd op => .arm (dpCode c 0b0001#4 (bit s) (regBits rn) (regBits rd) op)
  | .sub c s rn rd op => .arm (dpCode c 0b0010#4 (bit s) (regBits rn) (regBits rd) op)
  | .rsb c s rn rd op => .arm (dpCode c 0b0011#4 (bit s) (regBits rn) (regBits rd) op)
  | .add c s rn rd op => .arm (dpCode c 0b0100#4 (bit s) (regBits rn) (regBits rd) op)
  | .adc c s rn rd op => .arm (dpCode c 0b0101#4 (bit s) (regBits rn) (regBits rd) op)
  | .sbc c s rn rd op => .arm (dpCode c 0b0110#4 (bit s) (regBits rn) (regBits rd) op)
  | .rsc c s rn rd op => .arm (dpCode c 0b0111#4 (bit s) (regBits rn) (regBits rd) op)
  | .tst c rn op => .arm (dpCode c 0b1000#4 1 (regBits rn) 0 op)
  | .teq c rn op => .arm (dpCode c 0b1001#4 1 (regBits rn) 0 op)
  | .cmp c rn op => .arm (dpCode c 0b1010#4 1 (regBits rn) 0 op)
  | .cmn c rn op => .arm (dpCode c 0b1011#4 1 (regBits rn) 0 op)
  | .orr c s rn rd op => .arm (dpCode c 0b1100#4 (bit s) (regBits rn) (regBits rd) op)
  | .mov c s rd op => .arm (dpCode c 0b1101#4 (bit s) 0 (regBits rd) op)
  | .bic c s rn rd op => .arm (dpCode c 0b1110#4 (bit s) (regBits rn) (regBits rd) op)
  | .mvn c s rd op => .arm (dpCode c 0b1111#4 (bit s) 0 (regBits rd) op)
  | .mul c s rd rs rm => .arm (c.bits ++ 0b0000000#7 ++ bit s ++ regBits rd ++ 0b0000#4 ++ regBits rs ++ 0b1001#4 ++ regBits rm)
  | .mla c s rd rn rs rm => .arm (c.bits ++ 0b0000001#7 ++ bit s ++ regBits rd ++ regBits rn ++ regBits rs ++ 0b1001#4 ++ regBits rm)
  | .umaal c rdHi rdLo rs rm => .arm (c.bits ++ 0b00000100#8 ++ regBits rdHi ++ regBits rdLo ++ regBits rs ++ 0b1001#4 ++ regBits rm)
  | .umull c s rdHi rdLo rs rm => .arm (c.bits ++ 0b0000100#7 ++ bit s ++ regBits rdHi ++ regBits rdLo ++ regBits rs ++ 0b1001#4 ++ regBits rm)
  | .umlal c s rdHi rdLo rs rm => .arm (c.bits ++ 0b0000101#7 ++ bit s ++ regBits rdHi ++ regBits rdLo ++ regBits rs ++ 0b1001#4 ++ regBits rm)
  | .smull c s rdHi rdLo rs rm => .arm (c.bits ++ 0b0000110#7 ++ bit s ++ regBits rdHi ++ regBits rdLo ++ regBits rs ++ 0b1001#4 ++ regBits rm)
  | .smlal c s rdHi rdLo rs rm => .arm (c.bits ++ 0b0000111#7 ++ bit s ++ regBits rdHi ++ regBits rdLo ++ regBits rs ++ 0b1001#4 ++ regBits rm)
  | .strh c idx u rn rd off => .arm (halfCode c idx u 0b0#1 rn rd 0b01#2 off)
  | .ldrh c idx u rn rd off => .arm (halfCode c idx u 0b1#1 rn rd 0b01#2 off)
  | .ldrd c idx u rn rd off => .arm (halfCode c idx u 0b0#1 rn rd 0b10#2 off)
  | .strd c idx u rn rd off => .arm (halfCode c idx u 0b0#1 rn rd 0b11#2 off)
  | .ldrsb c idx u rn rd off => .arm (halfCode c idx u 0b1#1 rn rd 0b10#2 off)
  | .ldrsh c idx u rn rd off => .arm (halfCode c idx u 0b1#1 rn rd 0b11#2 off)
  | .mrsCpsr c rd => .arm (c.bits ++ 0b000100001111#12 ++ regBits rd ++ 0b000000000000#12)
  | .mrsSpsr c rd => .arm (c.bits ++ 0b000101001111#12 ++ regBits rd ++ 0b000000000000#12)
  | .msrCpsr c fields op => .arm (msrCode c 0b0#1 fields op)
  | .msrSpsr c fields op => .arm (msrCode c 0b1#1 fields op)
  | .bx c rm => .arm (c.bits ++ 0b000100101111111111110001#24 ++ regBits rm)
  | .bxj c rm => .arm (c.bits ++ 0b000100101111111111110010#24 ++ regBits rm)
  | .blxReg c rm => .arm (c.bits ++ 0b000100101111111111110011#24 ++ regBits rm)
  | .clz c rd rm => .arm (c.bits ++ 0b000101101111#12 ++ regBits rd ++ 0b11110001#8 ++ regBits rm)
  | .bkpt imm => .arm (0b111000010010#12 ++ imm.extractLsb' 4 12 ++ 0b0111#4 ++ imm.extractLsb' 0 4)
  | .qadd c rn rd rm => .arm (c.bits ++ 0b00010000#8 ++ regBits rn ++ regBits rd ++ 0b00000101#8 ++ regBits rm)
  | .qsub c rn rd rm => .arm (c.bits ++ 0b00010010#8 ++ regBits rn ++ regBits rd ++ 0b00000101#8 ++ regBits rm)
  | .qdadd c rn rd rm => .arm (c.bits ++ 0b00010100#8 ++ regBits rn ++ regBits rd ++ 0b00000101#8 ++ regBits rm)
  | .qdsub c rn rd rm => .arm (c.bits ++ 0b00010110#8 ++ regBits rn ++ regBits rd ++ 0b00000101#8 ++ regBits rm)
  | .smlaxy c rd rn rs y x rm => .arm (c.bits ++ 0b00010000#8 ++ regBits rd ++ regBits rn ++ regBits rs ++ 0b1#1 ++ bit y ++ bit x ++ 0b0#1 ++ regBits rm)
  | .smlawy c rd rn rs y rm => .arm (c.bits ++ 0b00010010#8 ++ regBits rd ++ regBits rn ++ regBits rs ++ 0b1#1 ++ bit y ++ 0b00#2 ++ regBits rm)
  | .smulwy c rd rs y rm => .arm (c.bits ++ 0b00010010#8 ++ regBits rd ++ 0b0000#4 ++ regBits rs ++ 0b1#1 ++ bit y ++ 0b10#2 ++ regBits rm)
  | .smlalxy c rdHi rdLo rs y x rm => .arm (c.bits ++ 0b00010100#8 ++ regBits rdHi ++ regBits rdLo ++ regBits rs ++ 0b1#1 ++ bit y ++ bit x ++ 0b0#1 ++ regBits rm)
  | .smulxy c rd rs y x rm => .arm (c.bits ++ 0b00010110#8 ++ regBits rd ++ 0b0000#4 ++ regBits rs ++ 0b1#1 ++ bit y ++ bit x ++ 0b0#1 ++ regBits rm)
  | .swp c rn rd rm => .arm (c.bits ++ 0b00010000#8 ++ regBits rn ++ regBits rd ++ 0b00001001#8 ++ regBits rm)
  | .swpb c rn rd rm => .arm (c.bits ++ 0b00010100#8 ++ regBits rn ++ regBits rd ++ 0b00001001#8 ++ regBits rm)
  | .strex c rn rd rm => .arm (c.bits ++ 0b00011000#8 ++ regBits rn ++ regBits rd ++ 0b11111001#8 ++ regBits rm)
  | .ldrex c rn rd => .arm (c.bits ++ 0b00011001#8 ++ regBits rn ++ regBits rd ++ 0b111110011111#12)
  | .str c idx u rn rd off => .arm (wordCode c (bit idx.p) u 0b0#1 (bit idx.w) 0b0#1 rn rd off)
  | .strt c u rn rd off => .arm (wordCode c 0 u 0b0#1 1 0b0#1 rn rd off)
  | .ldr c idx u rn rd off => .arm (wordCode c (bit idx.p) u 0b0#1 (bit idx.w) 0b1#1 rn rd off)
  | .ldrt c u rn rd off => .arm (wordCode c 0 u 0b0#1 1 0b1#1 rn rd off)
  | .strb c idx u rn rd off => .arm (wordCode c (bit idx.p) u 0b1#1 (bit idx.w) 0b0#1 rn rd off)
  | .strbt c u rn rd off => .arm (wordCode c 0 u 0b1#1 1 0b0#1 rn rd off)
  | .ldrb c idx u rn rd off => .arm (wordCode c (bit idx.p) u 0b1#1 (bit idx.w) 0b1#1 rn rd off)
  | .ldrbt c u rn rd off => .arm (wordCode c 0 u 0b1#1 1 0b1#1 rn rd off)
  | .qadd16 c rn rd rm => .arm (c.bits ++ 0b01100010#8 ++ regBits rn ++ regBits rd ++ 0b11110001#8 ++ regBits rm)
  | .qaddsubx c rn rd rm => .arm (c.bits ++ 0b01100010#8 ++ regBits rn ++ regBits rd ++ 0b11110011#8 ++ regBits rm)
  | .qsubaddx c rn rd rm => .arm (c.bits ++ 0b01100010#8 ++ regBits rn ++ regBits rd ++ 0b11110101#8 ++ regBits rm)
  | .qsub16 c rn rd rm => .arm (c.bits ++ 0b01100010#8 ++ regBits rn ++ regBits rd ++ 0b11110111#8 ++ regBits rm)
  | .qadd8 c rn rd rm => .arm (c.bits ++ 0b01100010#8 ++ regBits rn ++ regBits rd ++ 0b11111001#8 ++ regBits rm)
  | .qsub8 c rn rd rm => .arm (c.bits ++ 0b01100010#8 ++ regBits rn ++ regBits rd ++ 0b11111111#8 ++ regBits rm)
  | .uqadd16 c rn rd rm => .arm (c.bits ++ 0b01100110#8 ++ regBits rn ++ regBits rd ++ 0b11110001#8 ++ regBits rm)
  | .uqaddsubx c rn rd rm => .arm (c.bits ++ 0b01100110#8 ++ regBits rn ++ regBits rd ++ 0b11110011#8 ++ regBits rm)
  | .uqsubaddx c rn rd rm => .arm (c.bits ++ 0b01100110#8 ++ regBits rn ++ regBits rd ++ 0b11110101#8 ++ regBits rm)
  | .uqsub16 c rn rd rm => .arm (c.bits ++ 0b01100110#8 ++ regBits rn ++ regBits rd ++ 0b11110111#8 ++ regBits rm)
  | .uqadd8 c rn rd rm => .arm (c.bits ++ 0b01100110#8 ++ regBits rn ++ regBits rd ++ 0b11111001#8 ++ regBits rm)
  | .uqsub8 c rn rd rm => .arm (c.bits ++ 0b01100110#8 ++ regBits rn ++ regBits rd ++ 0b11111111#8 ++ regBits rm)
  | .sadd16 c rn rd rm => .arm (c.bits ++ 0b01100001#8 ++ regBits rn ++ regBits rd ++ 0b11110001#8 ++ regBits rm)
  | .saddsubx c rn rd rm => .arm (c.bits ++ 0b01100001#8 ++ regBits rn ++ regBits rd ++ 0b11110011#8 ++ regBits rm)
  | .ssubaddx c rn rd rm => .arm (c.bits ++ 0b01100001#8 ++ regBits rn ++ regBits rd ++ 0b11110101#8 ++ regBits rm)
  | .ssub16 c rn rd rm => .arm (c.bits ++ 0b01100001#8 ++ regBits rn ++ regBits rd ++ 0b11110111#8 ++ regBits rm)
  | .sadd8 c rn rd rm => .arm (c.bits ++ 0b01100001#8 ++ regBits rn ++ regBits rd ++ 0b11111001#8 ++ regBits rm)
  | .ssub8 c rn rd rm => .arm (c.bits ++ 0b01100001#8 ++ regBits rn ++ regBits rd ++ 0b11111111#8 ++ regBits rm)
  | .uadd16 c rn rd rm => .arm (c.bits ++ 0b01100101#8 ++ regBits rn ++ regBits rd ++ 0b11110001#8 ++ regBits rm)
  | .uaddsubx c rn rd rm => .arm (c.bits ++ 0b01100101#8 ++ regBits rn ++ regBits rd ++ 0b11110011#8 ++ regBits rm)
  | .usubaddx c rn rd rm => .arm (c.bits ++ 0b01100101#8 ++ regBits rn ++ regBits rd ++ 0b11110101#8 ++ regBits rm)
  | .usub16 c rn rd rm => .arm (c.bits ++ 0b01100101#8 ++ regBits rn ++ regBits rd ++ 0b11110111#8 ++ regBits rm)
  | .uadd8 c rn rd rm => .arm (c.bits ++ 0b01100101#8 ++ regBits rn ++ regBits rd ++ 0b11111001#8 ++ regBits rm)
  | .usub8 c rn rd rm => .arm (c.bits ++ 0b01100101#8 ++ regBits rn ++ regBits rd ++ 0b11111111#8 ++ regBits rm)
  | .shadd16 c rn rd rm => .arm (c.bits ++ 0b01100011#8 ++ regBits rn ++ regBits rd ++ 0b11110001#8 ++ regBits rm)
  | .shaddsubx c rn rd rm => .arm (c.bits ++ 0b01100011#8 ++ regBits rn ++ regBits rd ++ 0b11110011#8 ++ regBits rm)
  | .shsubaddx c rn rd rm => .arm (c.bits ++ 0b01100011#8 ++ regBits rn ++ regBits rd ++ 0b11110101#8 ++ regBits rm)
  | .shsub16 c rn rd rm => .arm (c.bits ++ 0b01100011#8 ++ regBits rn ++ regBits rd ++ 0b11110111#8 ++ regBits rm)
  | .shadd8 c rn rd rm => .arm (c.bits ++ 0b01100011#8 ++ regBits rn ++ regBits rd ++ 0b11111001#8 ++ regBits rm)
  | .shsub8 c rn rd rm => .arm (c.bits ++ 0b01100011#8 ++ regBits rn ++ regBits rd ++ 0b11111111#8 ++ regBits rm)
  | .uhadd16 c rn rd rm => .arm (c.bits ++ 0b01100111#8 ++ regBits rn ++ regBits rd ++ 0b11110001#8 ++ regBits rm)
  | .uhaddsubx c rn rd rm => .arm (c.bits ++ 0b01100111#8 ++ regBits rn ++ regBits rd ++ 0b11110011#8 ++ regBits rm)
  | .uhsubaddx c rn rd rm => .arm (c.bits ++ 0b01100111#8 ++ regBits rn ++ regBits rd ++ 0b11110101#8 ++ regBits rm)
  | .uhsub16 c rn rd rm => .arm (c.bits ++ 0b01100111#8 ++ regBits rn ++ regBits rd ++ 0b11110111#8 ++ regBits rm)
  | .uhadd8 c rn rd rm => .arm (c.bits ++ 0b01100111#8 ++ regBits rn ++ regBits rd ++ 0b11111001#8 ++ regBits rm)
  | .uhsub8 c rn rd rm => .arm (c.bits ++ 0b01100111#8 ++ regBits rn ++ regBits rd ++ 0b11111111#8 ++ regBits rm)
  | .pkhbt c rn rd amount rm => .arm (c.bits ++ 0b01101000#8 ++ regBits rn ++ regBits rd ++ amount ++ 0b001#3 ++ regBits rm)
  | .pkhtb c rn rd amount rm => .arm (c.bits ++ 0b01101000#8 ++ regBits rn ++ regBits rd ++ amount ++ 0b101#3 ++ regBits rm)
  | .ssat c sat rd amount asr rm => .arm (c.bits ++ 0b0110101#7 ++ sat ++ regBits rd ++ amount ++ bit asr ++ 0b01#2 ++ regBits rm)
  | .usat c sat rd amount asr rm => .arm (c.bits ++ 0b0110111#7 ++ sat ++ regBits rd ++ amount ++ bit asr ++ 0b01#2 ++ regBits rm)
  | .ssat16 c sat rd rm => .arm (c.bits ++ 0b01101010#8 ++ sat ++ regBits rd ++ 0b11110011#8 ++ regBits rm)
  | .usat16 c sat rd rm => .arm (c.bits ++ 0b01101110#8 ++ sat ++ regBits rd ++ 0b11110011#8 ++ regBits rm)
  | .sel c rn rd rm => .arm (c.bits ++ 0b01101000#8 ++ regBits rn ++ regBits rd ++ 0b11111011#8 ++ regBits rm)
  | .rev c rd rm => .arm (c.bits ++ 0b011010111111#12 ++ regBits rd ++ 0b11110011#8 ++ regBits rm)
  | .rev16 c rd rm => .arm (c.bits ++ 0b011010111111#12 ++ regBits rd ++ 0b11111011#8 ++ regBits rm)
  | .revsh c rd rm => .arm (c.bits ++ 0b011011111111#12 ++ regBits rd ++ 0b11111011#8 ++ regBits rm)
  | .sxtab16 c rn rd rot rm => .arm (c.bits ++ 0b01101000#8 ++ regBits rn ++ regBits rd ++ rot ++ 0b000111#6 ++ regBits rm)
  | .sxtb16 c rd rot rm => .arm (c.bits ++ 0b011010001111#12 ++ regBits rd ++ rot ++ 0b000111#6 ++ regBits rm)
  | .sxtab c rn rd rot rm => .arm (c.bits ++ 0b01101010#8 ++ regBits rn ++ regBits rd ++ rot ++ 0b000111#6 ++ regBits rm)
  | .sxtb c rd rot rm => .arm (c.bits ++ 0b011010101111#12 ++ regBits rd ++ rot ++ 0b000111#6 ++ regBits rm)
  | .sxtah c rn rd rot rm => .arm (c.bits ++ 0b01101011#8 ++ regBits rn ++ regBits rd ++ rot ++ 0b000111#6 ++ regBits rm)
  | .sxth c rd rot rm => .arm (c.bits ++ 0b011010111111#12 ++ regBits rd ++ rot ++ 0b000111#6 ++ regBits rm)
  | .uxtab16 c rn rd rot rm => .arm (c.bits ++ 0b01101100#8 ++ regBits rn ++ regBits rd ++ rot ++ 0b000111#6 ++ regBits rm)
  | .uxtb16 c rd rot rm => .arm (c.bits ++ 0b011011001111#12 ++ regBits rd ++ rot ++ 0b000111#6 ++ regBits rm)
  | .uxtab c rn rd rot rm => .arm (c.bits ++ 0b01101110#8 ++ regBits rn ++ regBits rd ++ rot ++ 0b000111#6 ++ regBits rm)
  | .uxtb c rd rot rm => .arm (c.bits ++ 0b011011101111#12 ++ regBits rd ++ rot ++ 0b000111#6 ++ regBits rm)
  | .uxtah c rn rd rot rm => .arm (c.bits ++ 0b01101111#8 ++ regBits rn ++ regBits rd ++ rot ++ 0b000111#6 ++ regBits rm)
  | .uxth c rd rot rm => .arm (c.bits ++ 0b011011111111#12 ++ regBits rd ++ rot ++ 0b000111#6 ++ regBits rm)
  | .smlad c rd rn rs x rm => .arm (c.bits ++ 0b01110000#8 ++ regBits rd ++ regBits rn ++ regBits rs ++ 0b00#2 ++ bit x ++ 0b1#1 ++ regBits rm)
  | .smuad c rd rs x rm => .arm (c.bits ++ 0b01110000#8 ++ regBits rd ++ 0b1111#4 ++ regBits rs ++ 0b00#2 ++ bit x ++ 0b1#1 ++ regBits rm)
  | .smlsd c rd rn rs x rm => .arm (c.bits ++ 0b01110000#8 ++ regBits rd ++ regBits rn ++ regBits rs ++ 0b01#2 ++ bit x ++ 0b1#1 ++ regBits rm)
  | .smusd c rd rs x rm => .arm (c.bits ++ 0b01110000#8 ++ regBits rd ++ 0b1111#4 ++ regBits rs ++ 0b01#2 ++ bit x ++ 0b1#1 ++ regBits rm)
  | .smlald c rdHi rdLo rs x rm => .arm (c.bits ++ 0b01110100#8 ++ regBits rdHi ++ regBits rdLo ++ regBits rs ++ 0b00#2 ++ bit x ++ 0b1#1 ++ regBits rm)
  | .smlsld c rdHi rdLo rs x rm => .arm (c.bits ++ 0b01110100#8 ++ regBits rdHi ++ regBits rdLo ++ regBits rs ++ 0b01#2 ++ bit x ++ 0b1#1 ++ regBits rm)
  | .smmla c rd rn rs r rm => .arm (c.bits ++ 0b01110101#8 ++ regBits rd ++ regBits rn ++ regBits rs ++ 0b00#2 ++ bit r ++ 0b1#1 ++ regBits rm)
  | .smmul c rd rs r rm => .arm (c.bits ++ 0b01110101#8 ++ regBits rd ++ 0b1111#4 ++ regBits rs ++ 0b00#2 ++ bit r ++ 0b1#1 ++ regBits rm)
  | .smmls c rd rn rs r rm => .arm (c.bits ++ 0b01110101#8 ++ regBits rd ++ regBits rn ++ regBits rs ++ 0b11#2 ++ bit r ++ 0b1#1 ++ regBits rm)
  | .usada8 c rd rn rs rm => .arm (c.bits ++ 0b01111000#8 ++ regBits rd ++ regBits rn ++ regBits rs ++ 0b0001#4 ++ regBits rm)
  | .usad8 c rd rs rm => .arm (c.bits ++ 0b01111000#8 ++ regBits rd ++ 0b1111#4 ++ regBits rs ++ 0b0001#4 ++ regBits rm)
  | .ldm c p u w rn list => .arm (c.bits ++ 0b100#3 ++ bit p ++ bit u ++ 0b0#1 ++ bit w ++ 0b1#1 ++ regBits rn ++ list)
  | .ldmUser c p u w rn list => .arm (c.bits ++ 0b100#3 ++ bit p ++ bit u ++ 0b1#1 ++ bit w ++ 0b1#1 ++ regBits rn ++ 0b0#1 ++ list)
  | .ldmReturn c p u w rn list => .arm (c.bits ++ 0b100#3 ++ bit p ++ bit u ++ 0b1#1 ++ bit w ++ 0b1#1 ++ regBits rn ++ 0b1#1 ++ list)
  | .stm c p u w rn list => .arm (c.bits ++ 0b100#3 ++ bit p ++ bit u ++ 0b0#1 ++ bit w ++ 0b0#1 ++ regBits rn ++ list)
  | .stmUser c p u w rn list => .arm (c.bits ++ 0b100#3 ++ bit p ++ bit u ++ 0b1#1 ++ bit w ++ 0b0#1 ++ regBits rn ++ list)
  | .b c imm => .arm (c.bits ++ 0b1010#4 ++ imm)
  | .bl c imm => .arm (c.bits ++ 0b1011#4 ++ imm)
  | .stc c n rn cd cp addr => .arm (cpTransferCode c.bits n 0b0#1 rn cd cp addr)
  | .ldc c n rn cd cp addr => .arm (cpTransferCode c.bits n 0b1#1 rn cd cp addr)
  | .mcrr c rn rd cp op1 cm => .arm (c.bits ++ 0b11000100#8 ++ regBits rn ++ regBits rd ++ regBits cp ++ op1 ++ regBits cm)
  | .mrrc c rn rd cp op1 cm => .arm (c.bits ++ 0b11000101#8 ++ regBits rn ++ regBits rd ++ regBits cp ++ op1 ++ regBits cm)
  | .cdp c op1 cn cd cp op2 cm => .arm (c.bits ++ 0b1110#4 ++ op1 ++ regBits cn ++ regBits cd ++ regBits cp ++ op2 ++ 0b0#1 ++ regBits cm)
  | .mcr c op1 cn rd cp op2 cm => .arm (c.bits ++ 0b1110#4 ++ op1 ++ 0b0#1 ++ regBits cn ++ regBits rd ++ regBits cp ++ op2 ++ 0b1#1 ++ regBits cm)
  | .mrc c op1 cn rd cp op2 cm => .arm (c.bits ++ 0b1110#4 ++ op1 ++ 0b1#1 ++ regBits cn ++ regBits rd ++ regBits cp ++ op2 ++ 0b1#1 ++ regBits cm)
  | .stc2 n rn cd cp addr => .arm (cpTransferCode 0b1111#4 n 0b0#1 rn cd cp addr)
  | .ldc2 n rn cd cp addr => .arm (cpTransferCode 0b1111#4 n 0b1#1 rn cd cp addr)
  | .mcrr2 rn rd cp op1 cm => .arm (0b111111000100#12 ++ regBits rn ++ regBits rd ++ regBits cp ++ op1 ++ regBits cm)
  | .mrrc2 rn rd cp op1 cm => .arm (0b111111000101#12 ++ regBits rn ++ regBits rd ++ regBits cp ++ op1 ++ regBits cm)
  | .cdp2 op1 cn cd cp op2 cm => .arm (0b11111110#8 ++ op1 ++ regBits cn ++ regBits cd ++ regBits cp ++ op2 ++ 0b0#1 ++ regBits cm)
  | .mcr2 op1 cn rd cp op2 cm => .arm (0b11111110#8 ++ op1 ++ 0b0#1 ++ regBits cn ++ regBits rd ++ regBits cp ++ op2 ++ 0b1#1 ++ regBits cm)
  | .mrc2 op1 cn rd cp op2 cm => .arm (0b11111110#8 ++ op1 ++ 0b1#1 ++ regBits cn ++ regBits rd ++ regBits cp ++ op2 ++ 0b1#1 ++ regBits cm)
  | .swi c imm => .arm (c.bits ++ 0b1111#4 ++ imm)
  | .cpsMode mode => .arm (0b111100010000001000000000000#27 ++ mode)
  | .cpsFlags disable m a i f mode => .arm (0b1111000100001#13 ++ bit disable ++ bit m ++ 0b00000000#8 ++ bit a ++ bit i ++ bit f ++ 0b0#1 ++ mode)
  | .setend e => .arm (0b1111000100000001000000#22 ++ bit e ++ 0b000000000#9)
  | .pld u rn off => .arm (pldCode u rn off)
  | .rfe p u w rn => .arm (0b1111100#7 ++ bit p ++ bit u ++ 0b0#1 ++ bit w ++ 0b1#1 ++ regBits rn ++ 0b0000101000000000#16)
  | .srs p u w mode => .arm (0b1111100#7 ++ bit p ++ bit u ++ 0b1#1 ++ bit w ++ 0b0110100000101000#16 ++ mode)
  | .blxImm h imm => .arm (0b1111101#7 ++ bit h ++ imm)
  | .tLslImm imm lm ld => .thumb (0b00000#5 ++ imm ++ lowBits lm ++ lowBits ld)
  | .tLsrImm imm lm ld => .thumb (0b00001#5 ++ imm ++ lowBits lm ++ lowBits ld)
  | .tAsrImm imm lm ld => .thumb (0b00010#5 ++ imm ++ lowBits lm ++ lowBits ld)
  | .tAddReg lm ln ld => .thumb (0b0001100#7 ++ lowBits lm ++ lowBits ln ++ lowBits ld)
  | .tSubReg lm ln ld => .thumb (0b0001101#7 ++ lowBits lm ++ lowBits ln ++ lowBits ld)
  | .tAddImm3 imm ln ld => .thumb (0b0001110#7 ++ imm ++ lowBits ln ++ lowBits ld)
  | .tSubImm3 imm ln ld => .thumb (0b0001111#7 ++ imm ++ lowBits ln ++ lowBits ld)
  | .tMovImm ld imm => .thumb (0b00100#5 ++ lowBits ld ++ imm)
  | .tCmpImm ln imm => .thumb (0b00101#5 ++ lowBits ln ++ imm)
  | .tAddImm8 ld imm => .thumb (0b00110#5 ++ lowBits ld ++ imm)
  | .tSubImm8 ld imm => .thumb (0b00111#5 ++ lowBits ld ++ imm)
  | .tAnd lm ld => .thumb (0b0100000000#10 ++ lowBits lm ++ lowBits ld)
  | .tEor lm ld => .thumb (0b0100000001#10 ++ lowBits lm ++ lowBits ld)
  | .tLslReg lm ld => .thumb (0b0100000010#10 ++ lowBits lm ++ lowBits ld)
  | .tLsrReg lm ld => .thumb (0b0100000011#10 ++ lowBits lm ++ lowBits ld)
  | .tAsrReg lm ld => .thumb (0b0100000100#10 ++ lowBits lm ++ lowBits ld)
  | .tAdc lm ld => .thumb (0b0100000101#10 ++ lowBits lm ++ lowBits ld)
  | .tSbc lm ld => .thumb (0b0100000110#10 ++ lowBits lm ++ lowBits ld)
  | .tRor lm ld => .thumb (0b0100000111#10 ++ lowBits lm ++ lowBits ld)
  | .tTst lm ln => .thumb (0b0100001000#10 ++ lowBits lm ++ lowBits ln)
  | .tNeg lm ld => .thumb (0b0100001001#10 ++ lowBits lm ++ lowBits ld)
  | .tCmpReg lm ln => .thumb (0b0100001010#10 ++ lowBits lm ++ lowBits ln)
  | .tCmn lm ln => .thumb (0b0100001011#10 ++ lowBits lm ++ lowBits ln)
  | .tOrr lm ld => .thumb (0b0100001100#10 ++ lowBits lm ++ lowBits ld)
  | .tMul lm ld => .thumb (0b0100001101#10 ++ lowBits lm ++ lowBits ld)
  | .tBic lm ld => .thumb (0b0100001110#10 ++ lowBits lm ++ lowBits ld)
  | .tMvn lm ld => .thumb (0b0100001111#10 ++ lowBits lm ++ lowBits ld)
  | .tAddHigh rd rm => .thumb (0b01000100#8 ++ (regBits rd).extractLsb' 3 1 ++ regBits rm ++ (regBits rd).extractLsb' 0 3)
  | .tCmpHigh rn rm => .thumb (0b01000101#8 ++ (regBits rn).extractLsb' 3 1 ++ regBits rm ++ (regBits rn).extractLsb' 0 3)
  | .tCpy ld lm => .thumb (0b0100011000#10 ++ lowBits lm ++ lowBits ld)
  | .tMovHigh rd rm => .thumb (0b01000110#8 ++ (regBits rd).extractLsb' 3 1 ++ regBits rm ++ (regBits rd).extractLsb' 0 3)
  | .tBx rm => .thumb (0b010001110#9 ++ regBits rm ++ 0b000#3)
  | .tBlxReg rm => .thumb (0b010001111#9 ++ regBits rm ++ 0b000#3)
  | .tLdrPc ld imm => .thumb (0b01001#5 ++ lowBits ld ++ imm)
  | .tStrReg lm ln ld => .thumb (0b0101000#7 ++ lowBits lm ++ lowBits ln ++ lowBits ld)
  | .tStrhReg lm ln ld => .thumb (0b0101001#7 ++ lowBits lm ++ lowBits ln ++ lowBits ld)
  | .tStrbReg lm ln ld => .thumb (0b0101010#7 ++ lowBits lm ++ lowBits ln ++ lowBits ld)
  | .tLdrsbReg lm ln ld => .thumb (0b0101011#7 ++ lowBits lm ++ lowBits ln ++ lowBits ld)
  | .tLdrReg lm ln ld => .thumb (0b0101100#7 ++ lowBits lm ++ lowBits ln ++ lowBits ld)
  | .tLdrhReg lm ln ld => .thumb (0b0101101#7 ++ lowBits lm ++ lowBits ln ++ lowBits ld)
  | .tLdrbReg lm ln ld => .thumb (0b0101110#7 ++ lowBits lm ++ lowBits ln ++ lowBits ld)
  | .tLdrshReg lm ln ld => .thumb (0b0101111#7 ++ lowBits lm ++ lowBits ln ++ lowBits ld)
  | .tStrImm imm ln ld => .thumb (0b01100#5 ++ imm ++ lowBits ln ++ lowBits ld)
  | .tLdrImm imm ln ld => .thumb (0b01101#5 ++ imm ++ lowBits ln ++ lowBits ld)
  | .tStrbImm imm ln ld => .thumb (0b01110#5 ++ imm ++ lowBits ln ++ lowBits ld)
  | .tLdrbImm imm ln ld => .thumb (0b01111#5 ++ imm ++ lowBits ln ++ lowBits ld)
  | .tStrhImm imm ln ld => .thumb (0b10000#5 ++ imm ++ lowBits ln ++ lowBits ld)
  | .tLdrhImm imm ln ld => .thumb (0b10001#5 ++ imm ++ lowBits ln ++ lowBits ld)
  | .tStrSp ld imm => .thumb (0b10010#5 ++ lowBits ld ++ imm)
  | .tLdrSp ld imm => .thumb (0b10011#5 ++ lowBits ld ++ imm)
  | .tAddPc ld imm => .thumb (0b10100#5 ++ lowBits ld ++ imm)
  | .tAddSp ld imm => .thumb (0b10101#5 ++ lowBits ld ++ imm)
  | .tAddSpImm imm => .thumb (0b101100000#9 ++ imm)
  | .tSubSpImm imm => .thumb (0b101100001#9 ++ imm)
  | .tSxth lm ld => .thumb (0b1011001000#10 ++ lowBits lm ++ lowBits ld)
  | .tSxtb lm ld => .thumb (0b1011001001#10 ++ lowBits lm ++ lowBits ld)
  | .tUxth lm ld => .thumb (0b1011001010#10 ++ lowBits lm ++ lowBits ld)
  | .tUxtb lm ld => .thumb (0b1011001011#10 ++ lowBits lm ++ lowBits ld)
  | .tRev lm ld => .thumb (0b1011101000#10 ++ lowBits lm ++ lowBits ld)
  | .tRev16 lm ld => .thumb (0b1011101001#10 ++ lowBits lm ++ lowBits ld)
  | .tRevsh lm ld => .thumb (0b1011101011#10 ++ lowBits lm ++ lowBits ld)
  | .tPush r list => .thumb (0b1011010#7 ++ bit r ++ list)
  | .tPop r list => .thumb (0b1011110#7 ++ bit r ++ list)
  | .tSetend e => .thumb (0b101101100101#12 ++ bit e ++ 0b000#3)
  | .tCps disable a i f => .thumb (0b10110110011#11 ++ bit disable ++ 0b0#1 ++ bit a ++ bit i ++ bit f)
  | .tBkpt imm => .thumb (0b10111110#8 ++ imm)
  | .tStmia ln list => .thumb (0b11000#5 ++ lowBits ln ++ list)
  | .tLdmia ln list => .thumb (0b11001#5 ++ lowBits ln ++ list)
  | .tBCond c offset => .thumb (0b1101#4 ++ c.bits ++ offset)
  | .tUndefined imm => .thumb (0b11011110#8 ++ imm)
  | .tSwi imm => .thumb (0b11011111#8 ++ imm)
  | .tB offset => .thumb (0b11100#5 ++ offset)
  | .tBlxSuffix offset => .thumb (0b11101#5 ++ offset ++ 0b0#1)
  | .tBlBlxPrefix poff => .thumb (0b11110#5 ++ poff)
  | .tBlSuffix offset => .thumb (0b11111#5 ++ offset)
  | .tBl poff offset => .pair (0b11110#5 ++ poff) (0b11111#5 ++ offset)
  | .tBlx poff offset => .pair (0b11110#5 ++ poff) (0b11101#5 ++ offset ++ 0b0#1)

/-- A halfword as the hardware stores it (R102). -/
def halfBytes (h : Half) : List Byte := [h.extractLsb' 0 8, h.extractLsb' 8 8]

/-- A word as the hardware stores it (R102). -/
def wordBytes (w : Word) : List Byte :=
  [w.extractLsb' 0 8, w.extractLsb' 8 8, w.extractLsb' 16 8, w.extractLsb' 24 8]

/-- The bytes of an instruction's words, the lowest address first. -/
def Code.bytes : Code → List Byte
  | .arm w => wordBytes w
  | .thumb h => halfBytes h
  | .pair h next => halfBytes h ++ halfBytes next

/-- Whether the words are Thumb. -/
def Code.isThumb : Code → Bool
  | .arm _ => false
  | .thumb _ | .pair _ _ => true

/-- Whether the instruction belongs to the Thumb set (R174). -/
def Instr.isThumb (i : Instr) : Bool := i.code.isThumb

/-- The bytes of a well-formed instruction, the lowest address first. -/
def encode (i : Instr) : List Byte := i.code.bytes

/-! ## The host's numbering of instruction bits -/

/-- The bytes of an instruction whose table bits are `w`: bit 0 is the lowest bit of the first word, and the bits above
`nbits` are 0, up to four bytes (the longest instruction). -/
def tableBytes (nbits w : Nat) : List Byte := wordBytes (BitVec.ofNat 32 (w % 2 ^ nbits))

/-- The instruction the decoder reads from a row's bits: a row of 32 bits is ARM, a row of 16 bits is Thumb, and the
halfword after a Thumb row is 0 (log 24). -/
def decodeTableWord (nbits w : Nat) : Option Instr :=
  match decode (decide (nbits ≤ 16)) (tableBytes nbits w) with
  | .ok (i, _) => some i
  | .error _ => none

end Sys2Proof
end

