-- ==== Sys2Proof/Config.lean ====
section
/-! DEFINITION. What an implementation fixes and the free values: constants without a body, so that a statement about
them holds for every value (spec/00_scope.md R7, R31; spec/93_implementation_defined.md sections 3 and 4). -/

namespace Sys2Proof

/-- The kinds of coprocessor operation (R281). -/
inductive CpKind where
  | cdp | mcr | mrc | mcrr | mrrc | ldc | stc
deriving DecidableEq, Repr

/-- What a coprocessor sees of one instruction: the arguments of R281's operations. A field that the kind of operation
does not have is 0. `two` is true for the "2" forms, `long` is the L suffix of LDC and STC. -/
structure CpReq where
  cp : RegNum
  kind : CpKind
  two : Bool
  op1 : BitVec 4 := 0
  cn : RegNum := 0
  cd : RegNum := 0
  cm : RegNum := 0
  op2 : BitVec 3 := 0
  long : Bool := false
  option : BitVec 8 := 0
deriving DecidableEq, Repr

/-- The registers c0 to c15 of one coprocessor; their width is "set by the coprocessor" (R40, R64). -/
abbrev CpRegs := Vector Nat 16

namespace Config

/-- `MAIN_ID`, the value of the main ID register of p15: OPEN (R7, R282; log 5). -/
opaque mainId : Word

/-- Whether `PC_STORE_OFFSET` is 12; otherwise it is 8. Implementation defined, "8 or 12" (R345; log 5). -/
opaque pcStoreOffset12 : Bool

/-- Whether the restrictions on the registers of a coprocessor instruction are tested before its presence test, as R663
orders steps 4 and 5, or after it, as R280, R287, R288 and R292 do: two rules of the spec with no ruling between them (log
16). -/
opaque restrictionsFirst : Instr → Bool

/-- The free 32-bit values `UNKNOWN_32`, one for each count (R31; log 6). -/
opaque freeWord : Nat → Word

/-- The free bits `UNKNOWN_1`, one for each count (R31; log 6). -/
opaque freeBit : Nat → Bool

/-- The bytes that memory holds after a reset taken in a run, one list for each count: a draw under no law (R701, R702;
log 13). -/
opaque freeCells : Nat → List (Nat × Byte)

/-- `CpCDP` of R281 (log 8). -/
opaque cpCdp : CpReq → CpRegs → CpRegs

/-- `CpMCR` of R281: one 32-bit value in (log 8). -/
opaque cpMcr : CpReq → Word → CpRegs → CpRegs

/-- `CpMRC` of R281: the value returned, and the coprocessor's registers, which it may update (log 8). -/
opaque cpMrc : CpReq → CpRegs → Word × CpRegs

/-- `CpMCRR` of R281: two 32-bit values in (log 8). -/
opaque cpMcrr : CpReq → Word → Word → CpRegs → CpRegs

/-- `CpMRRC` of R281: two 32-bit values out (log 8). -/
opaque cpMrrc : CpReq → CpRegs → Word × Word

/-- `CpLdcCount` of R281 less one: the number of words is 1 to 16. That it may depend on the coprocessor's registers, which
R281 neither says nor excludes, is the model's choice (DESIGN CHOICE, log 8). -/
opaque cpLdcCount : CpReq → CpRegs → Fin 16

/-- `CpLdcWord` of R281: word number `i` of the transfer (log 8). -/
opaque cpLdcWord : CpReq → Nat → Word → CpRegs → CpRegs

/-- `CpStcCount` of R281 less one, with the same choice (DESIGN CHOICE, log 8). -/
opaque cpStcCount : CpReq → CpRegs → Fin 16

/-- `CpStcWord` of R281: word number `i` of the transfer (log 8). -/
opaque cpStcWord : CpReq → Nat → CpRegs → Word

end Config

end Sys2Proof
end

