-- ==== Sys2Proof/Machine/State.lean ====
section
/-! DEFINITION. The state of the machine as plain data, its faults and refusals, and the state after reset
(spec/10_state.md R40 to R75). Reads and writes of the fields go through Machine/Ops.lean. -/

namespace Sys2Proof.Machine

/-- The processor modes (Table B.3, R45). -/
inductive Mode where
  | usr | fiq | irq | svc | abt | und | sys
deriving DecidableEq, Repr

/-- The exceptions of R650, without the imprecise data abort, which no rule raises (R671). -/
inductive Exc where
  | reset | undefined | softwareInterrupt | prefetchAbort | dataAbort | irq | fiq
deriving DecidableEq, Repr

/-- The `kind` of an access that the memory system may abort (R96). -/
inductive AccessKind where
  | fetch | read | write
deriving DecidableEq, Repr

/-- One answer "abort" of the oracle `EXT_ABORT(a, n, kind, privileged)`, for every address `a` from `lo` to `hi`
(R96; log 10). -/
structure AbortRegion where
  lo : Word
  hi : Word
  size : Nat
  kind : AccessKind
  privileged : Bool
deriving DecidableEq, Repr

/-- The page-table attributes of the addresses from `lo` to `hi` (R99; log 11). -/
structure AddrAttr where
  lo : Word
  hi : Word
  shared : Bool
  io : Bool
deriving DecidableEq, Repr

/-- An instruction that a present coprocessor rejects in a mode: one answer "false" of `CpAccepts(p, instr)`, which is
given the whole instruction and may depend on the mode (R281, R683; log 8). -/
structure CpReject where
  instr : Instr
  mode : Mode
deriving DecidableEq, Repr

/-- One coprocessor number: whether a coprocessor is present, what it rejects, its registers c0 to c15 (R64, R280,
R281). -/
structure Coproc where
  present : Bool
  rejects : List CpReject
  regs : CpRegs
deriving DecidableEq, Repr

/-- Memory: the listed bytes, addresses strictly rising, none equal to what an unlisted address reads as (R90;
log 4). -/
abbrev Memory := List Host.Cell

/-- The machine's state (R40). INVENTORY.md names the rule and the reset value of each field. -/
structure State where
  /-- The 30 copies of r0 to r14 (R44): 0 to 7 r0 to r7; 8 to 12 r8 to r12; 13, 14 sp, lr of user and system mode;
  15 to 21 r8_fiq to r14_fiq; then r13, r14 of irq (22, 23), svc (24, 25), abt (26, 27), und (28, 29). -/
  regs : Vector Word 30
  /-- r15 as state: the address of the next instruction to fetch (R43). -/
  pc : Word
  /-- The current program status register (R50). -/
  cpsr : Word
  /-- The saved program status registers: fiq, irq, svc, abt, und (R47). -/
  spsr : Vector Word 5
  /-- "there is an outstanding exclusive access" (R67, R110), with the exact word address that the monitor records
  (spec/92_eei_decisions.md D20; log 17). -/
  exclOutstanding : Option Word
  /-- The address marked exclusive, if any (R67, R110). -/
  exclAddr : Option Word
  /-- The model's own: a store, an exception entry or an exception return has followed the outstanding access, so that
  R113 lets nobody say whether it is still held (log 18). -/
  openOutstanding : Bool
  /-- The model's own: the same of the address marked exclusive (R113; log 18). -/
  openAddr : Bool
  /-- The coprocessors p0 to p15 (R64). -/
  cop : Vector Coproc 16
  /-- CP15:c1:c0:0, with the A bit (1) and the U bit (22) (R65). -/
  cp15c1 : Word
  /-- "high vectors are configured" (R69), fixed for a run. -/
  hivecs : Bool
  /-- The JE configuration bit (R69), fixed for a run. -/
  je : Bool
  /-- The parameter `PARALLEL_SAT_SETS_Q` (R7, R452), fixed for a run. -/
  satSetsQ : Bool
  /-- The IRQ input (R70, R670). -/
  irqPending : Bool
  /-- The FIQ input (R70, R670). -/
  fiqPending : Bool
  /-- The reset input (R700). -/
  resetPending : Bool
  /-- The oracle `EXT_ABORT`: the accesses that abort (R96). -/
  aborts : List AbortRegion
  /-- The predicates `Shared` and `IsIO` (R99). -/
  attrs : List AddrAttr
  /-- Memory (R90). -/
  mem : Memory
  /-- The model's own: how many free values have been drawn (R31; log 6). -/
  freeCount : Nat
deriving DecidableEq, Repr

/-- Why the machine stops: the spec's `UNPREDICTABLE` (R6, R31), to which no rule gives a successor state. One
constructor for each restriction (spec/93_implementation_defined.md section 2). All are safe: the machine stops where
the hardware does something the spec does not state (log 14). -/
inductive Fault where
  /-- An access or an instruction sequence that crosses from 0xFFFFFFFF to 0 (R91). Any access, any advance. -/
  | addressWrap
  /-- A branch in ARM state to an address that is not a multiple of four (R103). Branches, data processing to pc. -/
  | branchUnaligned
  /-- BX, BLX or a load to pc with bits 1:0 of the target = 10 (R24). -/
  | exchangeUnaligned
  /-- A fetch at a pc that is not aligned for the state (R43); no run from reset gets there. The step. -/
  | fetchUnaligned
  /-- A mode number that is not in Table B.3: written by MSR or CPS, named by SRS, or in cpsr at a step (R45). -/
  | unlistedMode
  /-- The spsr is needed in user or system mode (R47, R682). Data processing with S to pc, MRS, MSR, SRS. -/
  | noSpsr
  /-- pc in a register-shift form (R18, R240). Data processing. -/
  | registerShiftPc
  /-- pc in CLZ (R238). -/
  | clzPc
  /-- BLX Rm with Rm = pc (R265, R627). -/
  | blxPc
  /-- pc as Rd of MCR, Rd or Rn of MCRR and MRRC, or equal registers in MRRC (R287, R288, R292). -/
  | coprocessorRegister
  /-- LDC or STC with writeback to pc (R284). -/
  | coprocessorBasePc
  /-- Thumb CPSID or CPSIE with no flag letter (R642). -/
  | cpsNoFlag
  /-- MRS with Rd = pc (R303, R304). -/
  | mrsPc
  /-- MSR with Rm = pc (R305). -/
  | msrPc
  /-- MSR that would change T or J (R306). -/
  | msrState
  /-- Writeback with Rn = Rd in a single load or store (R322). -/
  | writebackOverlap
  /-- Writeback with Rn = pc (R322). -/
  | writebackPc
  /-- The offset register is pc (R322, R360). -/
  | offsetPc
  /-- The offset register is the base, with writeback (R322). -/
  | offsetWritebackOverlap
  /-- Rd = pc with a size other than 4, or in a T form (R322). -/
  | transferPc
  /-- An unaligned access outside the supported lists (R105 to R109). -/
  | unalignedUnpredictable
  /-- LDRD or STRD with Rd odd or r14 (R333, R346). -/
  | doublewordRegister
  /-- LDRD or STRD whose base, with writeback, or whose offset register overlaps the pair (R333, R346). -/
  | doublewordOverlap
  /-- LDREX or STREX with pc, or STREX with Rd equal to Rn or Rm (R334, R347). -/
  | exclusiveRegister
  /-- SWP or SWPB with pc, or Rn equal to Rm or Rd (R350, R351). -/
  | swapRegister
  /-- An empty register list (R372, R377, R610 to R613). -/
  | emptyList
  /-- LDM, STM or RFE with Rn = pc (R372, R377, R382). -/
  | multipleBasePc
  /-- LDM with writeback and Rn in the list (R372). -/
  | baseInList
  /-- LDM or STM with `^` in user or system mode (R374, R375, R379). -/
  | userBankMode
  /-- LDM or STM of the user bank with writeback (R374, R379). -/
  | userBankWriteback
  /-- RFE in user mode (R382). -/
  | rfeUserMode
  /-- An exception return to a mode that is not in Table B.3 (R675). -/
  | returnMode
  /-- An exception return to J = 1 (R675). -/
  | returnJava
  /-- pc in a multiply (R391). -/
  | multiplyPc
  /-- Registers of a multiply that must differ (R392 to R398, R547). -/
  | multiplyOverlap
  /-- pc in a media instruction (R440). -/
  | mediaPc
deriving DecidableEq, Repr

/-- Why the machine has no meaning for what it is asked: behaviour that the spec leaves to units it does not describe.
All are safe: the machine stops (log 9, log 22). -/
inductive Refusal where
  /-- An instruction that this model does not reach; no arm of `exec` raises it now. -/
  | notModelled (mnemonic : String)
  /-- An operation of p15 that the source does not describe (R282). Coprocessor instructions. -/
  | cp15Operation
  /-- Java execution: BXJ with JE set, or a step with J = 1 (R53, R268). BXJ, the step. -/
  | java
deriving DecidableEq, Repr

/-- A coprocessor number with nothing there (R280). -/
def Coproc.absent : Coproc := ⟨false, [], Vector.replicate 16 0⟩

/-- The default p15 (R282). Its two described registers are `cp15c1` and `Config.mainId`. -/
def Coproc.system : Coproc := ⟨true, [], Vector.replicate 16 0⟩

/-- The state right after reset (R75, R700). Supervisor mode, ARM state, A = I = F = 1; registers, spsrs and flags hold
the values that log 1 and log 2 name, the configuration that log 7 names. -/
def State.reset : State where
  regs := Vector.replicate 30 0
  pc := 0x00000000
  cpsr := 0x000001D3
  spsr := Vector.replicate 5 0
  exclOutstanding := none
  exclAddr := none
  openOutstanding := false
  openAddr := false
  cop := (Vector.replicate 16 Coproc.absent).set 15 Coproc.system
  cp15c1 := 0
  hivecs := false
  je := false
  satSetsQ := true
  irqPending := false
  fiqPending := false
  resetPending := false
  aborts := []
  attrs := []
  mem := []
  freeCount := 0

end Sys2Proof.Machine
end

