-- ==== Sys2Proof/Machine/Ops.lean ====
section
/-! DEFINITION. The named operations over registers, status registers, memory and the exclusive monitor, the ways to
write pc, taking an exception and returning from one (spec/00_scope.md R16, R21 to R26; spec/10_state.md R41 to R63;
spec/20_memory.md; spec/60_exceptions.md R650 to R676; spec/70_reset_and_hazards.md R700). -/

namespace Sys2Proof.Machine

/-! ## How an operation ends -/

/-- How an operation ends early: an exception raised in the state reached so far (R25), a fault, a refusal. -/
inductive Stop where
  | raise (e : Exc) (s : State)
  | fault (f : Fault)
  | refused (r : Refusal)
deriving DecidableEq, Repr

/-- The result of an operation. -/
abbrev Res (α : Type) := Except Stop α

/-- `raise <Exception>` (R25). -/
def raise {α : Type} (e : Exc) (s : State) : Res α := .error (.raise e s)

/-- `UNPREDICTABLE` (R31), by the name of the restriction. -/
def unpredictable {α : Type} (f : Fault) : Res α := .error (.fault f)

/-- `UNPREDICTABLE if <condition>` (R6). -/
def unpredictableIf (b : Bool) (f : Fault) : Res Unit := if b then unpredictable f else .ok ()

/-- An operation that the spec leaves to a unit it does not describe. -/
def refuse {α : Type} (r : Refusal) : Res α := .error (.refused r)

/-! ## Bits of a status register (R50) -/

/-- `w` with bit `i` set to `b`. -/
def setBit (w : Word) (i : Nat) (b : Bool) : Word :=
  if b then w ||| (1#32 <<< i) else w &&& ~~~(1#32 <<< i)

/-- The masked copy of MSR: bits under `mask` from `new`, the others from `old` (R305). -/
def maskWrite (old new mask : Word) : Word := (old &&& ~~~mask) ||| (new &&& mask)

/-- The bits that exist in a status register; the others are reserved, read 0, ignore writes (R50, R61). -/
def psrValid : Word := 0xF90F03FF

/-- The N flag (R51). -/
def State.flagN (s : State) : Bool := s.cpsr.getLsbD 31
/-- The Z flag (R51). -/
def State.flagZ (s : State) : Bool := s.cpsr.getLsbD 30
/-- The C flag (R51). -/
def State.flagC (s : State) : Bool := s.cpsr.getLsbD 29
/-- The V flag (R51). -/
def State.flagV (s : State) : Bool := s.cpsr.getLsbD 28
/-- The Q flag (R52). -/
def State.flagQ (s : State) : Bool := s.cpsr.getLsbD 27
/-- The J bit (R53). -/
def State.java (s : State) : Bool := s.cpsr.getLsbD 24
/-- The GE flags (R54). -/
def State.ge (s : State) : BitVec 4 := s.cpsr.extractLsb' 16 4
/-- The E bit: data accesses are big-endian (R55). -/
def State.bigEndian (s : State) : Bool := s.cpsr.getLsbD 9
/-- The I bit: IRQ is disabled (R57). -/
def State.irqMasked (s : State) : Bool := s.cpsr.getLsbD 7
/-- The F bit: FIQ is disabled (R58). -/
def State.fiqMasked (s : State) : Bool := s.cpsr.getLsbD 6
/-- The T bit: Thumb state (R59). -/
def State.thumb (s : State) : Bool := s.cpsr.getLsbD 5
/-- The mode field (R60). -/
def modeField (psr : Word) : BitVec 5 := psr.extractLsb' 0 5

/-- The state with another cpsr. -/
def State.setCpsr (s : State) (w : Word) : State := { s with cpsr := w }

/-- The state with another pc. -/
def State.setPc (s : State) (a : Word) : State := { s with pc := a }

/-! ## Modes and banks -/

/-- Table B.3 (R45); `none` for the 25 unlisted values. -/
def Mode.ofBits (b : BitVec 5) : Option Mode :=
  match b.toNat with
  | 0x10 => some .usr
  | 0x11 => some .fiq
  | 0x12 => some .irq
  | 0x13 => some .svc
  | 0x17 => some .abt
  | 0x1B => some .und
  | 0x1F => some .sys
  | _ => none

/-- The number of a mode (R45). -/
def Mode.bits : Mode → BitVec 5
  | .usr => 0x10
  | .fiq => 0x11
  | .irq => 0x12
  | .svc => 0x13
  | .abt => 0x17
  | .und => 0x1B
  | .sys => 0x1F

/-- The current mode; `none` where cpsr holds an unlisted value (log 22). -/
def State.mode? (s : State) : Option Mode := Mode.ofBits (modeField s.cpsr)

/-- Whether the mode is privileged: every mode but user (R48). -/
def State.privileged (s : State) : Bool := modeField s.cpsr != 0x10

/-- How far the mode's copy of register `i` lies above the user copy in `State.regs` (R44). -/
def bankOffset (m : Option Mode) (i : RegNum) : Nat :=
  match m with
  | some .fiq => if 8 ≤ i.val then 7 else 0
  | some .irq => if 13 ≤ i.val then 9 else 0
  | some .svc => if 13 ≤ i.val then 11 else 0
  | some .abt => if 13 ≤ i.val then 13 else 0
  | some .und => if 13 ≤ i.val then 15 else 0
  | some .usr | some .sys | none => 0

/-- The copy of register `i` that mode `m` selects; `none` for r15, which is not banked (R44). -/
def bank (m : Option Mode) (i : RegNum) : Option (Fin 30) :=
  if i.val = 15 then none else some (Fin.ofNat 30 (i.val + bankOffset m i))

/-- r15 as an operand: `INSTR + 8` in ARM state, `INSTR + 4` in Thumb state (R21, R43). -/
def State.pcRead (s : State) : Word := if s.thumb then s.pc + 4 else s.pc + 8

/-- `x_<mode>[i]` (R21). -/
def State.regIn (s : State) (m : Option Mode) (i : RegNum) : Word :=
  match bank m i with
  | some k => s.regs[k.val]
  | none => s.pcRead

/-- `x_<mode>[i] <- v` (R21); r15 is written only through the branch operations. -/
def State.setRegIn (s : State) (m : Option Mode) (i : RegNum) (v : Word) : State :=
  match bank m i with
  | some k => { s with regs := s.regs.set k.val v }
  | none => s

/-- `x[i]` (R21). -/
def State.reg (s : State) (i : RegNum) : Word := s.regIn s.mode? i

/-- `x[i] <- v` (R21). -/
def State.setReg (s : State) (i : RegNum) (v : Word) : State := s.setRegIn s.mode? i v

/-- A low register of a Thumb format as a register number (R10). -/
def low (i : LowReg) : RegNum := Fin.ofNat 16 i.val

/-- `Ln` of a Thumb format. -/
def State.lreg (s : State) (i : LowReg) : Word := s.reg (low i)

/-- `Ld <- v` of a Thumb format. -/
def State.setLreg (s : State) (i : LowReg) (v : Word) : State := s.setReg (low i) v

/-- The spsr of a mode; user and system mode have none (R47). -/
def Mode.spsrIndex : Mode → Option (Fin 5)
  | .fiq => some 0
  | .irq => some 1
  | .svc => some 2
  | .abt => some 3
  | .und => some 4
  | .usr | .sys => none

/-- The spsr of the current mode; `none` where `CurrentModeHasSPSR()` is false (R23, R47). -/
def State.spsrIndex? (s : State) : Option (Fin 5) := s.mode?.bind Mode.spsrIndex

/-- `spsr`, or `none` in a mode that has none (R23). -/
def State.spsr? (s : State) : Option Word := s.spsrIndex?.map fun k => s.spsr[k.val]

/-- The spsr where the rules need one; without one the instruction is UNPREDICTABLE (R47, R682). -/
def State.needSpsr (s : State) : Res Word :=
  match s.spsr? with
  | some w => .ok w
  | none => unpredictable .noSpsr

/-! ## Conditions and the pc -/

/-- `ConditionPassed(cond)` (R16). -/
def State.passed (s : State) : Cond → Bool
  | .eq => s.flagZ
  | .ne => !s.flagZ
  | .cs => s.flagC
  | .cc => !s.flagC
  | .mi => s.flagN
  | .pl => !s.flagN
  | .vs => s.flagV
  | .vc => !s.flagV
  | .hi => s.flagC && !s.flagZ
  | .ls => !s.flagC || s.flagZ
  | .ge => s.flagN == s.flagV
  | .lt => s.flagN != s.flagV
  | .gt => (s.flagN == s.flagV) && !s.flagZ
  | .le => (s.flagN != s.flagV) || s.flagZ
  | .al => true

/-- `pc <- INSTR + LEN` (R24); running across the end of the address space is UNPREDICTABLE (R91). -/
def State.advance (s : State) (len : Nat) : Res State :=
  if 2 ^ 32 ≤ s.pc.toNat + len then unpredictable .addressWrap
  else .ok (s.setPc (s.pc + BitVec.ofNat 32 len))

/-- A conditional ARM instruction: its effect, or only the advance (R26). -/
def State.conditional (s : State) (c : Cond) (body : Res State) : Res State :=
  if s.passed c then body else s.advance 4

/-- `BranchTo(a)` (R24): in Thumb state bit 0 is ignored, in ARM state the address must be aligned (R103). -/
def State.branchTo (s : State) (a : Word) : Res State :=
  if s.thumb then .ok (s.setPc (a &&& 0xFFFFFFFE))
  else if a &&& 3 = 0 then .ok (s.setPc a)
  else unpredictable .branchUnaligned

/-- `BXWritePC(a)` (R24). -/
def State.bxWritePc (s : State) (a : Word) : Res State :=
  if a &&& 3 = 2 then unpredictable .exchangeUnaligned
  else .ok ((s.setCpsr (setBit s.cpsr 5 (a.getLsbD 0))).setPc (a &&& 0xFFFFFFFE))

/-- `LoadWritePC(a)`: ARMv6 is above ARMv4, so it is a BX (R24, R331). -/
def State.loadWritePc (s : State) (a : Word) : Res State := s.bxWritePc a

/-! ## Free values (R31) -/

/-- `UNKNOWN_32`: the free word at the counter, and the state with the counter advanced (log 6). -/
def State.drawWord (s : State) : Word × State := (Config.freeWord s.freeCount, { s with freeCount := s.freeCount + 1 })

/-- `UNKNOWN_1`: the free bit at the counter, and the state with the counter advanced (log 6). -/
def State.drawBit (s : State) : Bool × State := (Config.freeBit s.freeCount, { s with freeCount := s.freeCount + 1 })

/-! ## Memory (R90 to R97) -/

/-- What a byte that is not listed reads as (log 4). -/
def unlistedByte : Byte := 0x00

/-- The byte at an address. -/
def Memory.read : Memory → Nat → Byte
  | [], _ => unlistedByte
  | (k, v) :: m, a => if k = a then v else Memory.read m a

/-- The memory without an entry for the address. -/
def Memory.erase (m : Memory) (a : Nat) : Memory := m.filter fun cell => cell.1 != a

/-- The memory with the entry put before the first higher address. -/
def Memory.insert : Memory → Nat → Byte → Memory
  | [], a, v => [(a, v)]
  | (k, w) :: m, a, v => if a < k then (a, v) :: (k, w) :: m else (k, w) :: Memory.insert m a v

/-- The memory with the byte at an address set; a byte that reads as an unlisted one is not listed. -/
def Memory.write (m : Memory) (a : Nat) (v : Byte) : Memory :=
  if v = unlistedByte then m.erase a else (m.erase a).insert a v

/-- The canonical form: addresses below 2^32 and strictly rising, no entry equal to an unlisted byte. -/
def Memory.wf : Memory → Bool
  | [] => true
  | (k, v) :: m => decide (k < 2 ^ 32) && v != unlistedByte && m.all (fun cell => decide (k < cell.1)) && Memory.wf m

/-- The memory that holds a list of bytes, the first of equal addresses; the addresses are taken modulo 2^32. -/
def Memory.ofCells (cells : List (Nat × Byte)) : Memory := cells.foldr (fun c m => Memory.write m (c.1 % 2 ^ 32) c.2) []

/-- The byte at an address (R90). -/
def State.byte (s : State) (a : Word) : Byte := s.mem.read a.toNat

/-- The byte at an address set. -/
def State.setByte (s : State) (a : Word) (v : Byte) : State := { s with mem := s.mem.write a.toNat v }

/-- The `n` bytes from address `a` up. -/
def State.bytesAt (s : State) (a : Word) : Nat → List Byte
  | 0 => []
  | n + 1 => s.byte a :: s.bytesAt (a + 1) n

/-- The bytes stored from address `a` up. -/
def State.setBytes (s : State) (a : Word) : List Byte → State
  | [] => s
  | b :: bs => (s.setByte a b).setBytes (a + 1) bs

/-- Bytes as a value, the first the least significant. -/
def packLittle : List Byte → Word
  | [] => 0
  | b :: bs => (packLittle bs <<< 8) ||| b.setWidth 32

/-- The low `n` bytes of a value, the least significant first. -/
def unpackLittle (v : Word) : Nat → List Byte
  | 0 => []
  | n + 1 => v.setWidth 8 :: unpackLittle (v >>> 8) n

/-- Bytes as a value in the configured data endianness (R92, R93). -/
def packData (big : Bool) (bs : List Byte) : Word := packLittle (if big then bs.reverse else bs)

/-- The low `n` bytes of a value in the configured data endianness, the lowest address first (R92, R94). -/
def unpackData (big : Bool) (v : Word) (n : Nat) : List Byte :=
  if big then (unpackLittle v n).reverse else unpackLittle v n

/-- Whether `n` bytes from `a` up cross from 0xFFFFFFFF to 0 (R91). -/
def crossesTop (a : Word) (n : Nat) : Bool := decide (2 ^ 32 < a.toNat + n)

/-- `EXT_ABORT(a, n, kind, privileged)` (R96). -/
def State.extAbort (s : State) (a : Word) (n : Nat) (kind : AccessKind) (privileged : Bool) : Bool :=
  s.aborts.any fun r =>
    decide (r.lo ≤ a) && decide (a ≤ r.hi) && r.size == n && r.kind == kind && r.privileged == privileged

/-- `MemRead(a, n)`, zero-extended; with `privileged` false, `MemReadT` (R93, R97). -/
def State.memRead (s : State) (a : Word) (n : Nat) (privileged : Bool) : Res Word :=
  if crossesTop a n then unpredictable .addressWrap
  else if s.extAbort a n .read privileged then raise .dataAbort s
  else .ok (packData s.bigEndian (s.bytesAt a n))

/-- `MemWrite(a, n, v)`; with `privileged` false, `MemWriteT` (R94, R97). -/
def State.memWrite (s : State) (a : Word) (n : Nat) (v : Word) (privileged : Bool) : Res State :=
  if crossesTop a n then unpredictable .addressWrap
  else if s.extAbort a n .write privileged then raise .dataAbort s
  else .ok (s.setBytes a (unpackData s.bigEndian v n))

/-! ## Alignment (R104 to R109) -/

/-- Whether there is a system coprocessor (`HAS_CP15`, R7). -/
def State.hasCp15 (s : State) : Bool := s.cop[15].present

/-- The A bit of CP15 c1, 0 without a system coprocessor (R65, R104). -/
def State.aBit (s : State) : Bool := s.hasCp15 && s.cp15c1.getLsbD 1

/-- The U bit of CP15 c1, 0 without a system coprocessor (R65, R104). -/
def State.uBit (s : State) : Bool := s.hasCp15 && s.cp15c1.getLsbD 22

/-- The address of the word that contains `a`. -/
def wordBase (a : Word) : Word := a &&& 0xFFFFFFFC

/-- Whether an address is a multiple of four. -/
def wordAligned (a : Word) : Bool := a &&& 3 == 0

/-- `LoadWord(a)` (R105). -/
def State.loadWord (s : State) (a : Word) (privileged : Bool) : Res Word :=
  if wordAligned a then s.memRead a 4 privileged
  else if s.aBit then raise .dataAbort s
  else if s.uBit then s.memRead a 4 privileged
  else do
    let v ← s.memRead (wordBase a) 4 privileged
    return v.rotateRight (8 * (a &&& 3).toNat)

/-- `LoadHalf(a)`, zero-extended (R105). -/
def State.loadHalf (s : State) (a : Word) (privileged : Bool) : Res Word :=
  if !a.getLsbD 0 then s.memRead a 2 privileged
  else if s.aBit then raise .dataAbort s
  else if s.uBit then s.memRead a 2 privileged
  else unpredictable .unalignedUnpredictable

/-- `StoreWord(a, v)` (R106). -/
def State.storeWord (s : State) (a v : Word) (privileged : Bool) : Res State :=
  if wordAligned a then s.memWrite a 4 v privileged
  else if s.aBit then raise .dataAbort s
  else if s.uBit then s.memWrite a 4 v privileged
  else s.memWrite (wordBase a) 4 v privileged

/-- `StoreHalf(a, v)` (R106). -/
def State.storeHalf (s : State) (a v : Word) (privileged : Bool) : Res State :=
  if !a.getLsbD 0 then s.memWrite a 2 v privileged
  else if s.aBit then raise .dataAbort s
  else if s.uBit then s.memWrite a 2 v privileged
  else unpredictable .unalignedUnpredictable

/-- The alignment test of LDRD and STRD (R107). -/
def State.checkDouble (s : State) (a : Word) : Res Unit :=
  if a &&& 7 = 0 then .ok ()
  else if wordAligned a then
    if s.uBit then .ok ()
    else if s.aBit then raise .dataAbort s
    else unpredictable .unalignedUnpredictable
  else if s.aBit || s.uBit then raise .dataAbort s
  else unpredictable .unalignedUnpredictable

/-- The alignment test of the multiple and coprocessor transfers (R108). -/
def State.checkMultiple (s : State) (start : Word) : Res Unit :=
  if !wordAligned start && (s.aBit || s.uBit) then raise .dataAbort s else .ok ()

/-- The alignment test of LDREX, STREX and SWP (R109). -/
def State.checkExclusive (s : State) (a : Word) : Res Unit :=
  if wordAligned a then .ok ()
  else if s.aBit || s.uBit then raise .dataAbort s
  else unpredictable .unalignedUnpredictable

/-- `n` word reads from `start` up, in ascending order, the low two address bits ignored (R108, R116). -/
def State.readWords (s : State) (start : Word) : Nat → Res (List Word)
  | 0 => .ok []
  | n + 1 => do
    let v ← s.memRead (wordBase start) 4 s.privileged
    let vs ← s.readWords (start + 4) n
    return v :: vs

/-- Word writes from `start` up, in ascending order, the low two address bits ignored (R108, R116). -/
def State.writeWords (s : State) (start : Word) : List Word → Res State
  | [] => .ok s
  | v :: vs => do
    let s' ← s.memWrite (wordBase start) 4 v s.privileged
    s'.writeWords (start + 4) vs

/-- A transfer of `n` words that crosses the top of the address space is UNPREDICTABLE (R91). -/
def checkWrap (start : Word) (n : Nat) : Res Unit := unpredictableIf (crossesTop (wordBase start) (4 * n)) .addressWrap

/-! ## The exclusive monitor (R110 to R113) -/

/-- `Shared(a)` (R99). -/
def State.shared (s : State) (a : Word) : Bool :=
  s.attrs.any fun r => decide (r.lo ≤ a) && decide (a ≤ r.hi) && r.shared

/-- The mark of `MemReadEx(a, 4)`, with the exact word address (R110, R111, D20; log 17). -/
def State.markExclusive (s : State) (a : Word) : State :=
  if s.shared a then { s with exclAddr := some a, openAddr := false }
  else { s with exclOutstanding := some a, openOutstanding := false }

/-- What an ordinary store (no STREX, no swap), an exception entry and an exception return do to the monitor: nothing that a
rule states, and nothing that a model may rule out, so that from here on a mark may be held or gone (R113, R655; log 18). -/
def State.openMonitor (s : State) : State := { s with openOutstanding := true, openAddr := true }

/-- Whether the mark of an access to `a` is recorded (R112, D20). -/
def State.marked (s : State) (a : Word) : Bool :=
  if s.shared a then s.exclAddr == some a else s.exclOutstanding == some a

/-- Whether that mark may have been cleared since (R113; log 18). -/
def State.markOpen (s : State) (a : Word) : Bool := if s.shared a then s.openAddr else s.openOutstanding

/-- The clearing of `IsExclusive(a)` (R112). -/
def State.clearExclusive (s : State) (a : Word) : State :=
  if s.shared a then { s with exclAddr := none, exclOutstanding := none } else { s with exclOutstanding := none }

/-- `IsExclusive(a)`: the test and the state it leaves, cleared whatever the answer. Where the mark may have been cleared
the answer is a free value (R112, R113; log 18). -/
def State.isExclusive (s : State) (a : Word) : Bool × State :=
  if s.marked a && s.markOpen a then (s.drawBit.1, s.drawBit.2.clearExclusive a) else (s.marked a, s.clearExclusive a)

/-! ## Exceptions (R650 to R676) -/

/-- The mode an exception enters (R652). -/
def Exc.mode : Exc → Mode
  | .reset | .softwareInterrupt => .svc
  | .undefined => .und
  | .prefetchAbort | .dataAbort => .abt
  | .irq => .irq
  | .fiq => .fiq

/-- The offset of an exception's vector from `VBASE` (R652). -/
def Exc.vector : Exc → Word
  | .reset => 0x00
  | .undefined => 0x04
  | .softwareInterrupt => 0x08
  | .prefetchAbort => 0x0C
  | .dataAbort => 0x10
  | .irq => 0x18
  | .fiq => 0x1C

/-- `VBASE` (R652). -/
def State.vectorBase (s : State) : Word := if s.hivecs then 0xFFFF0000 else 0x00000000

/-- The link value (R656); `s.pc` is `INSTR`, or `NEXT` for an interrupt. -/
def Exc.link (e : Exc) (s : State) : Word :=
  match e with
  | .undefined | .softwareInterrupt => if s.thumb then s.pc + 2 else s.pc + 4
  | .prefetchAbort | .irq | .fiq | .reset => s.pc + 4
  | .dataAbort => s.pc + 8

/-- The cpsr after the entry (R655). -/
def Exc.psr (e : Exc) (old : Word) : Word :=
  let w := maskWrite (old &&& psrValid) (e.mode.bits.setWidth 32) 0x1F
  let w := setBit (setBit (setBit (setBit w 5 false) 24 false) 7 true) 9 false
  match e with
  | .reset | .fiq => setBit (setBit w 6 true) 8 true
  | .prefetchAbort | .dataAbort | .irq => setBit w 8 true
  | .undefined | .softwareInterrupt => w

/-- Taking the reset input (R700): control bits and pc as R75, the monitor clear, A and U of CP15 c1 0; registers,
spsrs, flags and all of memory become free values (R701, R702; log 13). -/
def takeReset (s : State) : State :=
  let free := fun (k : Nat) => Config.freeWord (s.freeCount + k)
  { s with
    regs := Vector.ofFn fun i : Fin 30 => free i.val
    spsr := Vector.ofFn fun i : Fin 5 => free (30 + i.val) &&& psrValid
    cpsr := maskWrite (Exc.psr .reset 0) (free 35) 0xF80F0000
    pc := s.vectorBase + Exc.vector .reset
    exclOutstanding := none
    exclAddr := none
    openOutstanding := false
    openAddr := false
    cp15c1 := s.cp15c1 &&& ~~~0x00400002
    mem := Memory.ofCells (Config.freeCells s.freeCount)
    freeCount := s.freeCount + 36 }

/-- `Enter(exception)` (R655): link and cpsr are saved in r14 and spsr of the mode entered; the marks of the monitor are not
changed, and whether they are still held is open (R113; log 18). -/
def enter (e : Exc) (s : State) : State :=
  match e, e.mode.spsrIndex with
  | .reset, _ | _, none => takeReset s
  | _, some k =>
    let s1 := s.setRegIn (some e.mode) 14 (e.link s)
    { s1.openMonitor with
      spsr := s.spsr.set k.val (s.cpsr &&& psrValid)
      cpsr := e.psr s.cpsr
      pc := s.vectorBase + e.vector }

/-- The exception return (R675): `new` to the cpsr, then the branch in the state of the new T bit. The reserved bits of
`new` are ignored (R61). The monitor is open after it (R113; log 18). -/
def State.exceptionReturn (s : State) (new target : Word) : Res State :=
  let w := new &&& psrValid
  if (Mode.ofBits (modeField w)).isNone then unpredictable .returnMode
  else if w.getLsbD 24 then unpredictable .returnJava
  else (s.openMonitor.setCpsr w).branchTo target

/-- The outcome of an instruction: an exception that it raised is taken (R25). -/
def finish : Res State → Host.Outcome State Fault Refusal
  | .ok s => .next s
  | .error (.raise e s) => .next (enter e s)
  | .error (.fault f) => .fault f
  | .error (.refused r) => .refused r

/-- A word or halfword that matches no row takes the undefined instruction trap; an ARM word only if its condition
passes, where bits 31:28 = 1111 are no condition (R158, R173, R658). -/
def State.unlisted (s : State) : DecodeError → Res State
  | .unlistedArm w =>
    match Cond.ofBits (w.extractLsb' 28 4) with
    | some c => s.conditional c (raise .undefined s)
    | none => raise .undefined s
  | .unlistedThumb _ | .truncated => raise .undefined s

/-! ## Instruction fetch (R102) -/

/-- The bytes of the instruction at `pc`: four in ARM state; two in Thumb state, and the two after them when they are a
BL or BLX prefix (R630). The bytes are little-endian whatever E is, and an abort is a prefetch abort (R660). -/
def State.fetch (s : State) : Res (List Byte) :=
  if s.thumb then
    if s.pc.getLsbD 0 then unpredictable .fetchUnaligned
    else if s.extAbort s.pc 2 .fetch s.privileged then raise .prefetchAbort s
    else if isBlPrefix (s.byte (s.pc + 1) ++ s.byte s.pc) then
      if crossesTop s.pc 4 then unpredictable .addressWrap
      else if s.extAbort (s.pc + 2) 2 .fetch s.privileged then raise .prefetchAbort s
      else .ok (s.bytesAt s.pc 4)
    else .ok (s.bytesAt s.pc 2)
  else if !wordAligned s.pc then unpredictable .fetchUnaligned
  else if s.extAbort s.pc 4 .fetch s.privileged then raise .prefetchAbort s
  else .ok (s.bytesAt s.pc 4)

end Sys2Proof.Machine
end

