-- ==== Sys2Proof/Machine/Flags.lean ====
section
/-! DEFINITION. Every flag computation (spec/00_scope.md R14, R15, R20; spec/10_state.md R50 to R55). -/

namespace Sys2Proof.Machine

/-- `AddWithCarry(x, y, c)`: the result, the carry, the signed overflow (R15). -/
def addWithCarry (x y : Word) (c : Bool) : Word × Bool × Bool :=
  let usum := x.toNat + y.toNat + c.toNat
  let ssum := x.toInt + y.toInt + (c.toNat : Int)
  let result := BitVec.ofNat 32 usum
  (result, decide (2 ^ 32 ≤ usum), decide (ssum ≠ result.toInt))

/-- `SignedSat(x, n)`: the saturated value, and whether it differs from `x` (R20). -/
def signedSat (x : Int) (n : Nat) : Int × Bool :=
  let v := min (max x (-(2 ^ (n - 1) : Int))) (2 ^ (n - 1) - 1)
  (v, decide (v ≠ x))

/-- `UnsignedSat(x, n)`: the saturated value, and whether it differs from `x` (R20). -/
def unsignedSat (x : Int) (n : Nat) : Int × Bool :=
  let v := min (max x 0) (2 ^ n - 1)
  (v, decide (v ≠ x))

/-- N and Z of a 32-bit result (R14). -/
def psrNZ (w r : Word) : Word := setBit (setBit w 31 r.msb) 30 (r == 0)

/-- N and Z from the result (R14). -/
def State.setNZ (s : State) (r : Word) : State := s.setCpsr (psrNZ s.cpsr r)

/-- N and Z from the result, C as given; V preserved (R224, R399). -/
def State.setNZC (s : State) (r : Word) (c : Bool) : State := s.setCpsr (setBit (psrNZ s.cpsr r) 29 c)

/-- N and Z from the result, C and V as given (R222). -/
def State.setNZCV (s : State) (r : Word) (c v : Bool) : State :=
  s.setCpsr (setBit (setBit (psrNZ s.cpsr r) 29 c) 28 v)

/-- N and Z of a 64-bit result, C and V as given (R399). -/
def State.setLongFlags (s : State) (r : BitVec 64) (c v : Bool) : State :=
  s.setCpsr (setBit (setBit (setBit (setBit s.cpsr 31 r.msb) 30 (r == 0)) 29 c) 28 v)

/-- `Q = Q | b`: sticky (R52). -/
def State.orQ (s : State) (b : Bool) : State := if b then s.setCpsr (setBit s.cpsr 27 true) else s

/-- GE[3:0] (R54). -/
def State.setGe (s : State) (g : BitVec 4) : State :=
  s.setCpsr (maskWrite s.cpsr (g.setWidth 32 <<< 16) 0x000F0000)

/-- NZCV from the top four bits of a value (R291). -/
def State.setFlagsFrom (s : State) (v : Word) : State := s.setCpsr (maskWrite s.cpsr v 0xF0000000)

/-- `cpsr.E <- e` (R309). -/
def State.setEndian (s : State) (e : Bool) : State := s.setCpsr (setBit s.cpsr 9 e)

/-- `cpsr.mode <- m` (R301). -/
def State.setModeField (s : State) (m : BitVec 5) : State := s.setCpsr (maskWrite s.cpsr (m.setWidth 32) 0x1F)

end Sys2Proof.Machine
end

