-- ==== Sys2Proof/Machine/Operands.lean ====
section
/-! DEFINITION. Every operand form: the barrel shifter, rotated immediates, the second operand of data processing, the
addressing modes and their restrictions (spec/00_scope.md R13, R17, R18; spec/30_encoding.md R139, R175;
spec/40_data_processing.md R220, R240; spec/42_coprocessor.md R284; spec/44_load_store.md R321, R322;
spec/45_load_store_multiple.md R370, R371). -/

namespace Sys2Proof.Machine

/-! ## The shifter -/

/-- `Shift(Rm, type, k, C)` without RRX: the rows of Table A.3 (R17). -/
def shift (v : Word) (ty : ShiftType) (k : Nat) (c : Bool) : Word × Bool :=
  if k = 0 then (v, c)
  else match ty with
  | .lsl =>
    if k ≤ 31 then (v <<< k, v.getLsbD (32 - k)) else if k = 32 then (0, v.getLsbD 0) else (0, false)
  | .lsr =>
    if k ≤ 31 then (v >>> k, v.getLsbD (k - 1)) else if k = 32 then (0, v.getLsbD 31) else (0, false)
  | .asr =>
    if k ≤ 31 then (v.sshiftRight k, v.getLsbD (k - 1)) else (v.sshiftRight 31, v.getLsbD 31)
  | .ror => (v.rotateRight (k % 32), v.getLsbD ((k - 1) % 32))

/-- The RRX row of Table A.3 (R17). -/
def rrx (v : Word) (c : Bool) : Word × Bool := (setBit (v >>> 1) 31 c, v.getLsbD 0)

/-- `DecodeImmShift` and the shift (R139). -/
def immShift (v : Word) (ty : ShiftType) (amount : BitVec 5) (c : Bool) : Word × Bool :=
  match ty with
  | .lsl => shift v .lsl amount.toNat c
  | .lsr => shift v .lsr (if amount = 0 then 32 else amount.toNat) c
  | .asr => shift v .asr (if amount = 0 then 32 else amount.toNat) c
  | .ror => if amount = 0 then rrx v c else shift v .ror amount.toNat c

/-- `RotImm(immed8, immed4, C)` (R13). -/
def rotImm (op : RotatedImm) (c : Bool) : Word × Bool :=
  let v := (op.imm.setWidth 32 : Word).rotateRight (2 * op.rotate.toNat)
  (v, if op.rotate = 0 then c else v.msb)

/-- `Rm {, <imm_shift>}` (R18). -/
def State.shiftedReg (s : State) (op : ShiftByImm) : Word × Bool :=
  immShift (s.reg op.rm) op.ty op.amount s.flagC

/-- `Operand2(instr)`: the value and `shifter_C` (R220). -/
def State.operand2 (s : State) : Operand2 → Word × Bool
  | .imm op => rotImm op s.flagC
  | .shiftImm op => s.shiftedReg op
  | .shiftReg op => shift (s.reg op.rm) op.ty ((s.reg op.rs).toNat % 256) s.flagC

/-- In the register-shift form none of the registers may be pc (R18, R240). `regs` are Rd and Rn, where there. -/
def checkRegisterShift (op : Operand2) (regs : List RegNum) : Res Unit :=
  match op with
  | .shiftReg r => unpredictableIf (r.rs == 15 || r.rm == 15 || regs.contains 15) .registerShiftPc
  | .imm _ | .shiftImm _ => .ok ()

/-- The operand of MSR (R305). -/
def State.msrOperand (s : State) : MsrOperand → Res Word
  | .imm op => .ok (rotImm op s.flagC).1
  | .reg rm => if rm = 15 then unpredictable .msrPc else .ok (s.reg rm)

/-! ## Single transfers -/

/-- An address, whether the base is written back, and the new base (R321). -/
structure Address where
  addr : Word
  writeback : Bool
  newBase : Word
deriving DecidableEq, Repr

/-- `U = 1 ? base + offset : base - offset` (R321). -/
def offsetBase (u : Bool) (base offset : Word) : Word := if u then base + offset else base - offset

/-- `AddrMode` from the base and the offset (R321). -/
def indexedAddress (idx : Indexing) (u : Bool) (base offset : Word) : Address :=
  let moved := offsetBase u base offset
  match idx with
  | .offset => ⟨moved, false, moved⟩
  | .pre => ⟨moved, true, moved⟩
  | .post => ⟨base, true, moved⟩

/-- The offset of the word and byte class (R321). -/
def State.wordOffset (s : State) : WordOffset → Word
  | .imm imm => imm.setWidth 32
  | .reg op => (s.shiftedReg op).1

/-- The offset of the halfword class (R321). -/
def State.halfOffset (s : State) : HalfOffset → Word
  | .imm imm => imm.setWidth 32
  | .reg rm => s.reg rm

/-- The offset register, where there is one. -/
def offsetReg : WordOffset → Option RegNum
  | .imm _ => none
  | .reg op => some op.rm

/-- The offset register, where there is one. -/
def halfOffsetReg : HalfOffset → Option RegNum
  | .imm _ => none
  | .reg rm => some rm

/-- Whether the addressing form writes the base back (R321). -/
def writesBack (idx : Indexing) : Bool := idx != .offset

/-- The restrictions of R322 on Rn, Rd and the offset register; `pcAllowed` is true for the word size without T. -/
def checkTransfer (wb : Bool) (rn rd : RegNum) (rm : Option RegNum) (pcAllowed : Bool) : Res Unit := do
  unpredictableIf (wb && rn == rd) .writebackOverlap
  unpredictableIf (wb && rn == 15) .writebackPc
  unpredictableIf (rm == some 15) .offsetPc
  unpredictableIf (rd == 15 && !pcAllowed) .transferPc
  unpredictableIf (wb && rm == some rn) .offsetWritebackOverlap

/-- The next register, `R(d+1)` of a doubleword (R333). -/
def nextReg (rd : RegNum) : RegNum := rd + 1

/-- Rd of a doubleword is even and at most r12 (R333, R346). -/
def checkPair (rd : RegNum) : Res Unit := unpredictableIf (rd.val % 2 == 1 || rd == 14) .doublewordRegister

/-- The base is written back where the form says so (R323). -/
def State.writeBase (s : State) (rn : RegNum) (a : Address) : State := if a.writeback then s.setReg rn a.newBase else s

/-! ## Coprocessor transfers -/

/-- The address modes of LDC and STC (R284). -/
def cpAddress (m : CpAddressing) (base : Word) : Address :=
  match m with
  | .indexed idx u imm => indexedAddress idx u base (imm.setWidth 32 <<< 2)
  | .unindexed _ => ⟨base, false, base⟩

/-- Whether the addressing form writes the base back (R284). -/
def cpWritesBack : CpAddressing → Bool
  | .indexed idx _ _ => writesBack idx
  | .unindexed _ => false

/-! ## Multiple transfers -/

/-- `<register_list>`: the registers of the set bits, in increasing order (R370). -/
def regList (list : BitVec 16) : List RegNum := (List.finRange 16).filter fun i => list.getLsbD i.val

/-- The lowest address accessed (R371). -/
def blockStart (p u : Bool) (base : Word) (n : Nat) : Word :=
  match p, u with
  | false, true => base
  | true, true => base + 4
  | false, false => base - BitVec.ofNat 32 (4 * n) + 4
  | true, false => base - BitVec.ofNat 32 (4 * n)

/-- The value written back to Rn (R371). -/
def blockBase (u : Bool) (base : Word) (n : Nat) : Word :=
  if u then base + BitVec.ofNat 32 (4 * n) else base - BitVec.ofNat 32 (4 * n)

/-- A half of a register as a signed number: the bottom half, or with `top` the top half (R390). -/
def half (v : Word) (top : Bool) : Int := (v.extractLsb' (if top then 16 else 0) 16).toInt

end Sys2Proof.Machine
end

