-- ==== Sys2Proof/Machine/Branch.lean ====
section
/-! DEFINITION. The ARM branch instructions (spec/41_branch.md). -/

namespace Sys2Proof.Machine

/-- The target of the ARM immediate branches: `INSTR + 8 + (sext_32(imm24) << 2)` (R261). -/
def State.branchTarget (s : State) (imm : BitVec 24) : Word := s.pc + 8 + (imm.signExtend 32 <<< 2)

/-- `x[14] <- INSTR + 4` (R260). -/
def State.linkArm (s : State) : State := s.setReg 14 (s.pc + 4)

/-- B (R261). -/
def execB (c : Cond) (imm : BitVec 24) (s : State) : Host.Outcome State Fault Refusal :=
  finish (s.conditional c (s.branchTo (s.branchTarget imm)))

/-- BL (R262). -/
def execBl (c : Cond) (imm : BitVec 24) (s : State) : Host.Outcome State Fault Refusal :=
  finish (s.conditional c (s.linkArm.branchTo (s.branchTarget imm)))

/-- BLX with an immediate: to Thumb state; H is bit 1 of the target (R264). -/
def execBlxImm (h : Bool) (imm : BitVec 24) (s : State) : Host.Outcome State Fault Refusal :=
  finish (.ok ((s.linkArm.setCpsr (setBit s.cpsr 5 true)).setPc (s.branchTarget imm + if h then 2 else 0)))

/-- BLX with a register, which is read before lr is written (R265). -/
def execBlxReg (c : Cond) (rm : RegNum) (s : State) : Host.Outcome State Fault Refusal :=
  finish (s.conditional c do
    unpredictableIf (rm == 15) .blxPc
    s.linkArm.bxWritePc (s.reg rm))

/-- BX (R266). -/
def execBx (c : Cond) (rm : RegNum) (s : State) : Host.Outcome State Fault Refusal :=
  finish (s.conditional c (s.bxWritePc (s.reg rm)))

/-- BXJ: a BX while JE is clear; the Java extension is not described (R268). -/
def execBxj (c : Cond) (rm : RegNum) (s : State) : Host.Outcome State Fault Refusal :=
  finish (s.conditional c (if s.je then refuse .java else s.bxWritePc (s.reg rm)))

end Sys2Proof.Machine
end

