-- ==== Sys2Proof/Machine/Coprocessor.lean ====
section
/-! DEFINITION. The coprocessor instructions (spec/42_coprocessor.md). What a coprocessor other than p15 does is given
by the constants of Config (log 8); p15 has its two described registers (R282), and the rest of it is refused
(log 9). -/

namespace Sys2Proof.Machine

/-- `CpAccepts(p, instr)`: false for an instruction that the coprocessor rejects in this mode, and for every instruction
of p15 in user mode (R281, R683). -/
def State.cpAccepts (s : State) (p : RegNum) (i : Instr) : Bool :=
  !(s.cop[p.val].rejects.any fun r => r.instr == i && some r.mode == s.mode?) && (p != 15 || s.privileged)

/-- The restriction that an instruction breaks, if it does. -/
def restriction (b : Bool) (f : Fault) : Option Fault := if b then some f else none

/-- Steps 4 and 5 of R663: the instruction's own restrictions, of which `broken` is the one it breaks, and the presence
test with the coprocessor's own. Which is first matters only where both fail, and is open: R663 has the restrictions first,
R280 and the rules R283 to R292 the presence test (log 16). -/
def State.checkCp (s : State) (p : RegNum) (i : Instr) (broken : Option Fault) : Res Unit :=
  let accepted := s.cop[p.val].present && s.cpAccepts p i
  match broken with
  | none => if accepted then .ok () else raise .undefined s
  | some f => if accepted || Config.restrictionsFirst i then unpredictable f else raise .undefined s

/-- The tests of an operation that p15 does not describe (R282; log 9). -/
def State.checkCpOther (s : State) (p : RegNum) (i : Instr) (broken : Option Fault) : Res Unit := do
  s.checkCp p i broken
  if p = 15 then refuse .cp15Operation else .ok ()

/-- The registers of a coprocessor. -/
def State.cpRegs (s : State) (p : RegNum) : CpRegs := s.cop[p.val].regs

/-- The registers of a coprocessor set. -/
def State.setCpRegs (s : State) (p : RegNum) (r : CpRegs) : State :=
  { s with cop := s.cop.set p.val { s.cop[p.val] with regs := r } }

/-- The CP15:c1:c0:0 operand: `op1 = 0, Cn = c1, Cm = c0, op2 = 0` (R282). -/
def isControlReg (req : CpReq) : Bool := !req.two && req.op1 == 0 && req.cn == 1 && req.cm == 0 && req.op2 == 0

/-- The main ID operand: `op1 = 0, Cn = c0, Cm = c0, op2 = 0` (R282). -/
def isMainId (req : CpReq) : Bool := !req.two && req.op1 == 0 && req.cn == 0 && req.cm == 0 && req.op2 == 0

/-- `CpMCR` (R281, R282). -/
def State.cpWrite (s : State) (req : CpReq) (v : Word) : Res State :=
  if req.cp = 15 then
    if isControlReg req then .ok { s with cp15c1 := v } else refuse .cp15Operation
  else .ok (s.setCpRegs req.cp (Config.cpMcr req v (s.cpRegs req.cp)))

/-- `CpMRC`: the value, and the state it leaves (R281, R282). -/
def State.cpRead (s : State) (req : CpReq) : Res (Word × State) :=
  if req.cp = 15 then
    if isControlReg req then .ok (s.cp15c1, s)
    else if isMainId req then .ok (Config.mainId, s)
    else refuse .cp15Operation
  else
    let r := Config.cpMrc req (s.cpRegs req.cp)
    .ok (r.1, s.setCpRegs req.cp r.2)

/-- The words of LDC delivered, the first as number `i` (R285). -/
def State.ldcWords (s : State) (req : CpReq) (i : Nat) : List Word → State
  | [] => s
  | v :: vs =>
    (s.setCpRegs req.cp (Config.cpLdcWord { req with option := 0 } i v (s.cpRegs req.cp))).ldcWords req (i + 1) vs

/-- The words of STC (R286). -/
def State.stcValues (s : State) (req : CpReq) (n : Nat) : List Word :=
  (List.range n).map fun i => Config.cpStcWord { req with option := 0 } i (s.cpRegs req.cp)

/-- The tests on the addresses of LDC and STC, as of LDM and STM (R108, R91). -/
def State.checkCpBlock (s : State) (addr : Word) (n : Nat) : Res Unit := do
  s.checkMultiple addr
  checkWrap addr n

/-- Writeback to pc is UNPREDICTABLE (R284). -/
def cpBaseBroken (m : CpAddressing) (rn : RegNum) : Option Fault :=
  restriction (cpWritesBack m && rn == 15) .coprocessorBasePc

/-- LDC and LDC2: every word is read before the first is delivered, so that an access that aborts leaves the coprocessor,
the destination, as it was (R98, R285; log 20). -/
def State.cpLoad (s : State) (i : Instr) (req : CpReq) (rn : RegNum) (m : CpAddressing) : Res State := do
  s.checkCpOther req.cp i (cpBaseBroken m rn)
  let a := cpAddress m (s.reg rn)
  let n := (Config.cpLdcCount req (s.cpRegs req.cp)).val + 1
  s.checkCpBlock a.addr n
  let vs ← s.readWords a.addr n
  ((s.ldcWords req 0 vs).writeBase rn a).advance 4

/-- STC and STC2 (R286). -/
def State.cpStore (s : State) (i : Instr) (req : CpReq) (rn : RegNum) (m : CpAddressing) : Res State := do
  s.checkCpOther req.cp i (cpBaseBroken m rn)
  let a := cpAddress m (s.reg rn)
  let n := (Config.cpStcCount req (s.cpRegs req.cp)).val + 1
  s.checkCpBlock a.addr n
  let s1 ← s.writeWords a.addr (s.stcValues req n)
  (s1.openMonitor.writeBase rn a).advance 4

/-- MCRR and MCRR2 (R288). -/
def State.cpMoveTo2 (s : State) (i : Instr) (req : CpReq) (rn rd : RegNum) : Res State := do
  s.checkCpOther req.cp i (restriction (rd == 15 || rn == 15) .coprocessorRegister)
  (s.setCpRegs req.cp (Config.cpMcrr req (s.reg rd) (s.reg rn) (s.cpRegs req.cp))).advance 4

/-- MRRC and MRRC2 (R292). -/
def State.cpMoveFrom2 (s : State) (i : Instr) (req : CpReq) (rn rd : RegNum) : Res State := do
  s.checkCpOther req.cp i (restriction (rd == 15 || rn == 15 || rd == rn) .coprocessorRegister)
  let v := Config.cpMrrc req (s.cpRegs req.cp)
  ((s.setReg rd v.1).setReg rn v.2).advance 4

/-- CDP and CDP2 (R283). -/
def State.cpData (s : State) (i : Instr) (req : CpReq) : Res State := do
  s.checkCpOther req.cp i none
  (s.setCpRegs req.cp (Config.cpCdp req (s.cpRegs req.cp))).advance 4

/-- MCR and MCR2 (R287). -/
def State.cpMoveTo (s : State) (i : Instr) (req : CpReq) (rd : RegNum) : Res State := do
  s.checkCp req.cp i (restriction (rd == 15) .coprocessorRegister)
  let s1 ← s.cpWrite req (s.reg rd)
  s1.advance 4

/-- MRC and MRC2: with Rd = pc, the flags from the top four bits (R291). -/
def State.cpMoveFrom (s : State) (i : Instr) (req : CpReq) (rd : RegNum) : Res State := do
  s.checkCp req.cp i none
  let r ← s.cpRead req
  (if rd = 15 then r.2.setFlagsFrom r.1 else r.2.setReg rd r.1).advance 4

/-- STC (R286). -/
def execStc (c : Cond) (n : Bool) (rn cd cp : RegNum) (addr : CpAddressing) (s : State) :
    Host.Outcome State Fault Refusal :=
  finish (s.conditional c (s.cpStore (.stc c n rn cd cp addr)
    { cp := cp, kind := .stc, two := false, cd := cd, long := n, option := addr.low } rn addr))

/-- LDC (R285). -/
def execLdc (c : Cond) (n : Bool) (rn cd cp : RegNum) (addr : CpAddressing) (s : State) :
    Host.Outcome State Fault Refusal :=
  finish (s.conditional c (s.cpLoad (.ldc c n rn cd cp addr)
    { cp := cp, kind := .ldc, two := false, cd := cd, long := n, option := addr.low } rn addr))

/-- MCRR (R288). -/
def execMcrr (c : Cond) (rn rd cp : RegNum) (op1 : BitVec 4) (cm : RegNum) (s : State) :
    Host.Outcome State Fault Refusal :=
  finish (s.conditional c (s.cpMoveTo2 (.mcrr c rn rd cp op1 cm)
    { cp := cp, kind := .mcrr, two := false, op1 := op1, cm := cm } rn rd))

/-- MRRC (R292). -/
def execMrrc (c : Cond) (rn rd cp : RegNum) (op1 : BitVec 4) (cm : RegNum) (s : State) :
    Host.Outcome State Fault Refusal :=
  finish (s.conditional c (s.cpMoveFrom2 (.mrrc c rn rd cp op1 cm)
    { cp := cp, kind := .mrrc, two := false, op1 := op1, cm := cm } rn rd))

/-- CDP (R283). -/
def execCdp (c : Cond) (op1 : BitVec 4) (cn cd cp : RegNum) (op2 : BitVec 3) (cm : RegNum) (s : State) :
    Host.Outcome State Fault Refusal :=
  finish (s.conditional c (s.cpData (.cdp c op1 cn cd cp op2 cm)
    { cp := cp, kind := .cdp, two := false, op1 := op1, cn := cn, cd := cd, cm := cm, op2 := op2 }))

/-- MCR (R287). -/
def execMcr (c : Cond) (op1 : BitVec 3) (cn rd cp : RegNum) (op2 : BitVec 3) (cm : RegNum) (s : State) :
    Host.Outcome State Fault Refusal :=
  finish (s.conditional c (s.cpMoveTo (.mcr c op1 cn rd cp op2 cm)
    { cp := cp, kind := .mcr, two := false, op1 := op1.setWidth 4, cn := cn, cm := cm, op2 := op2 } rd))

/-- MRC (R291). -/
def execMrc (c : Cond) (op1 : BitVec 3) (cn rd cp : RegNum) (op2 : BitVec 3) (cm : RegNum) (s : State) :
    Host.Outcome State Fault Refusal :=
  finish (s.conditional c (s.cpMoveFrom (.mrc c op1 cn rd cp op2 cm)
    { cp := cp, kind := .mrc, two := false, op1 := op1.setWidth 4, cn := cn, cm := cm, op2 := op2 } rd))

/-- STC2 (R286). -/
def execStc2 (n : Bool) (rn cd cp : RegNum) (addr : CpAddressing) (s : State) :
    Host.Outcome State Fault Refusal :=
  finish (s.cpStore (.stc2 n rn cd cp addr)
    { cp := cp, kind := .stc, two := true, cd := cd, long := n, option := addr.low } rn addr)

/-- LDC2 (R285). -/
def execLdc2 (n : Bool) (rn cd cp : RegNum) (addr : CpAddressing) (s : State) :
    Host.Outcome State Fault Refusal :=
  finish (s.cpLoad (.ldc2 n rn cd cp addr)
    { cp := cp, kind := .ldc, two := true, cd := cd, long := n, option := addr.low } rn addr)

/-- MCRR2 (R288). -/
def execMcrr2 (rn rd cp : RegNum) (op1 : BitVec 4) (cm : RegNum) (s : State) :
    Host.Outcome State Fault Refusal :=
  finish (s.cpMoveTo2 (.mcrr2 rn rd cp op1 cm)
    { cp := cp, kind := .mcrr, two := true, op1 := op1, cm := cm } rn rd)

/-- MRRC2 (R292). -/
def execMrrc2 (rn rd cp : RegNum) (op1 : BitVec 4) (cm : RegNum) (s : State) :
    Host.Outcome State Fault Refusal :=
  finish (s.cpMoveFrom2 (.mrrc2 rn rd cp op1 cm)
    { cp := cp, kind := .mrrc, two := true, op1 := op1, cm := cm } rn rd)

/-- CDP2 (R283). -/
def execCdp2 (op1 : BitVec 4) (cn cd cp : RegNum) (op2 : BitVec 3) (cm : RegNum) (s : State) :
    Host.Outcome State Fault Refusal :=
  finish (s.cpData (.cdp2 op1 cn cd cp op2 cm)
    { cp := cp, kind := .cdp, two := true, op1 := op1, cn := cn, cd := cd, cm := cm, op2 := op2 })

/-- MCR2 (R287). -/
def execMcr2 (op1 : BitVec 3) (cn rd cp : RegNum) (op2 : BitVec 3) (cm : RegNum) (s : State) :
    Host.Outcome State Fault Refusal :=
  finish (s.cpMoveTo (.mcr2 op1 cn rd cp op2 cm)
    { cp := cp, kind := .mcr, two := true, op1 := op1.setWidth 4, cn := cn, cm := cm, op2 := op2 } rd)

/-- MRC2 (R291). -/
def execMrc2 (op1 : BitVec 3) (cn rd cp : RegNum) (op2 : BitVec 3) (cm : RegNum) (s : State) :
    Host.Outcome State Fault Refusal :=
  finish (s.cpMoveFrom (.mrc2 op1 cn rd cp op2 cm)
    { cp := cp, kind := .mrc, two := true, op1 := op1.setWidth 4, cn := cn, cm := cm, op2 := op2 } rd)

end Sys2Proof.Machine
end

