-- ==== Sys2Proof/Machine/DataProcessing.lean ====
section
/-! DEFINITION. The ARM data-processing instructions (spec/40_data_processing.md). -/

namespace Sys2Proof.Machine

/-- `DPWrite`: the result to Rd and the flags with S, or a jump, with S an exception return (R221). -/
def State.dpWrite (s : State) (rd : RegNum) (sf : Bool) (result : Word) (flags : State → State) : Res State :=
  if rd = 15 then
    if sf then do
      let psr ← s.needSpsr
      s.exceptionReturn psr result
    else s.branchTo result
  else (if sf then flags (s.setReg rd result) else s.setReg rd result).advance 4

/-- A logical operation or move: C is the shifter's carry, V is preserved (R224). -/
def State.dpLogical (s : State) (f : Word → Word → Word) (sf : Bool) (rn rd : RegNum) (op : Operand2) : Res State := do
  checkRegisterShift op [rn, rd]
  let result := f (s.reg rn) (s.operand2 op).1
  s.dpWrite rd sf result fun t => t.setNZC result (s.operand2 op).2

/-- A move: there is no Rn (R229, R241). -/
def State.dpMove (s : State) (f : Word → Word) (sf : Bool) (rd : RegNum) (op : Operand2) : Res State := do
  checkRegisterShift op [rd]
  let result := f (s.operand2 op).1
  s.dpWrite rd sf result fun t => t.setNZC result (s.operand2 op).2

/-- An arithmetic operation: C and V from `AddWithCarry` (R222). `f` takes Rn and the second operand. -/
def State.dpArith (s : State) (f : Word → Word → Word × Bool × Bool) (sf : Bool) (rn rd : RegNum) (op : Operand2) :
    Res State := do
  checkRegisterShift op [rn, rd]
  let r := f (s.reg rn) (s.operand2 op).1
  s.dpWrite rd sf r.1 fun t => t.setNZCV r.1 r.2.1 r.2.2

/-- A logical test: only N, Z and C (R237). -/
def State.dpTest (s : State) (f : Word → Word → Word) (rn : RegNum) (op : Operand2) : Res State := do
  checkRegisterShift op [rn]
  (s.setNZC (f (s.reg rn) (s.operand2 op).1) (s.operand2 op).2).advance 4

/-- An arithmetic compare: only the flags (R227). -/
def State.dpCompare (s : State) (f : Word → Word → Word × Bool × Bool) (rn : RegNum) (op : Operand2) : Res State := do
  checkRegisterShift op [rn]
  let r := f (s.reg rn) (s.operand2 op).1
  (s.setNZCV r.1 r.2.1 r.2.2).advance 4

/-- AND (R224). -/
def execAnd (c : Cond) (sf : Bool) (rn rd : RegNum) (op : Operand2) (s : State) : Host.Outcome State Fault Refusal :=
  finish (s.conditional c (s.dpLogical (fun a b => a &&& b) sf rn rd op))

/-- EOR (R228). -/
def execEor (c : Cond) (sf : Bool) (rn rd : RegNum) (op : Operand2) (s : State) : Host.Outcome State Fault Refusal :=
  finish (s.conditional c (s.dpLogical (fun a b => a ^^^ b) sf rn rd op))

/-- SUB (R234). -/
def execSub (c : Cond) (sf : Bool) (rn rd : RegNum) (op : Operand2) (s : State) : Host.Outcome State Fault Refusal :=
  finish (s.conditional c (s.dpArith (fun a b => addWithCarry a (~~~b) true) sf rn rd op))

/-- RSB (R232). -/
def execRsb (c : Cond) (sf : Bool) (rn rd : RegNum) (op : Operand2) (s : State) : Host.Outcome State Fault Refusal :=
  finish (s.conditional c (s.dpArith (fun a b => addWithCarry (~~~a) b true) sf rn rd op))

/-- ADD (R222). -/
def execAdd (c : Cond) (sf : Bool) (rn rd : RegNum) (op : Operand2) (s : State) : Host.Outcome State Fault Refusal :=
  finish (s.conditional c (s.dpArith (fun a b => addWithCarry a b false) sf rn rd op))

/-- ADC (R223). -/
def execAdc (c : Cond) (sf : Bool) (rn rd : RegNum) (op : Operand2) (s : State) : Host.Outcome State Fault Refusal :=
  finish (s.conditional c (s.dpArith (fun a b => addWithCarry a b s.flagC) sf rn rd op))

/-- SBC (R235). -/
def execSbc (c : Cond) (sf : Bool) (rn rd : RegNum) (op : Operand2) (s : State) : Host.Outcome State Fault Refusal :=
  finish (s.conditional c (s.dpArith (fun a b => addWithCarry a (~~~b) s.flagC) sf rn rd op))

/-- RSC (R233). -/
def execRsc (c : Cond) (sf : Bool) (rn rd : RegNum) (op : Operand2) (s : State) : Host.Outcome State Fault Refusal :=
  finish (s.conditional c (s.dpArith (fun a b => addWithCarry (~~~a) b s.flagC) sf rn rd op))

/-- TST (R237). -/
def execTst (c : Cond) (rn : RegNum) (op : Operand2) (s : State) : Host.Outcome State Fault Refusal :=
  finish (s.conditional c (s.dpTest (fun a b => a &&& b) rn op))

/-- TEQ (R236). -/
def execTeq (c : Cond) (rn : RegNum) (op : Operand2) (s : State) : Host.Outcome State Fault Refusal :=
  finish (s.conditional c (s.dpTest (fun a b => a ^^^ b) rn op))

/-- CMP (R227). -/
def execCmp (c : Cond) (rn : RegNum) (op : Operand2) (s : State) : Host.Outcome State Fault Refusal :=
  finish (s.conditional c (s.dpCompare (fun a b => addWithCarry a (~~~b) true) rn op))

/-- CMN (R226). -/
def execCmn (c : Cond) (rn : RegNum) (op : Operand2) (s : State) : Host.Outcome State Fault Refusal :=
  finish (s.conditional c (s.dpCompare (fun a b => addWithCarry a b false) rn op))

/-- ORR (R231). -/
def execOrr (c : Cond) (sf : Bool) (rn rd : RegNum) (op : Operand2) (s : State) : Host.Outcome State Fault Refusal :=
  finish (s.conditional c (s.dpLogical (fun a b => a ||| b) sf rn rd op))

/-- MOV, and the ARM spellings CPY and NOP (R229, R239). -/
def execMov (c : Cond) (sf : Bool) (rd : RegNum) (op : Operand2) (s : State) : Host.Outcome State Fault Refusal :=
  finish (s.conditional c (s.dpMove (fun b => b) sf rd op))

/-- BIC (R225). -/
def execBic (c : Cond) (sf : Bool) (rn rd : RegNum) (op : Operand2) (s : State) : Host.Outcome State Fault Refusal :=
  finish (s.conditional c (s.dpLogical (fun a b => a &&& ~~~b) sf rn rd op))

/-- MVN (R230). -/
def execMvn (c : Cond) (sf : Bool) (rd : RegNum) (op : Operand2) (s : State) : Host.Outcome State Fault Refusal :=
  finish (s.conditional c (s.dpMove (fun b => ~~~b) sf rd op))

/-- The number of zeros above the highest one among the low `n` bits (R238). -/
def leadingZeros (v : Word) : Nat → Nat
  | 0 => 0
  | n + 1 => if v.getLsbD n then 0 else leadingZeros v n + 1

/-- CLZ (R238). -/
def execClz (c : Cond) (rd rm : RegNum) (s : State) : Host.Outcome State Fault Refusal :=
  finish (s.conditional c do
    unpredictableIf (rd == 15 || rm == 15) .clzPc
    (s.setReg rd (BitVec.ofNat 32 (leadingZeros (s.reg rm) 32))).advance 4)

end Sys2Proof.Machine
end

