-- ==== Sys2Proof/Machine/LoadStore.lean ====
section
/-! DEFINITION. The ARM single-register loads and stores, exclusives, swap and preload (spec/44_load_store.md). -/

namespace Sys2Proof.Machine

/-! ## The steps they share (R323) -/

/-- The value that STR stores: of pc, `INSTR + PC_STORE_OFFSET` (R340, R345; log 5). -/
def State.storeValue (s : State) (rd : RegNum) : Word :=
  if rd = 15 then s.pc + (if Config.pcStoreOffset12 then 12 else 8) else s.reg rd

/-- The address of a word or byte transfer (R321). -/
def State.wordAddress (s : State) (idx : Indexing) (u : Bool) (rn : RegNum) (off : WordOffset) : Address :=
  indexedAddress idx u (s.reg rn) (s.wordOffset off)

/-- The address of a halfword, signed-byte or doubleword transfer (R321). -/
def State.halfAddress (s : State) (idx : Indexing) (u : Bool) (rn : RegNum) (off : HalfOffset) : Address :=
  indexedAddress idx u (s.reg rn) (s.halfOffset off)

/-- The end of a load: the base, then Rd (R323). -/
def State.endLoad (s : State) (rn rd : RegNum) (a : Address) (v : Word) : Res State :=
  ((s.writeBase rn a).setReg rd v).advance 4

/-- The end of a store: the base (R323); the monitor is open after it (R113). -/
def State.endStore (s : State) (rn : RegNum) (a : Address) : Res State := (s.openMonitor.writeBase rn a).advance 4

/-- A byte load, zero-extended (R326, R328). -/
def State.loadByte (s : State) (a : Word) (privileged : Bool) : Res Word := s.memRead a 1 privileged

/-- A byte store: the low 8 bits (R341, R343). -/
def State.storeByte (s : State) (a v : Word) (privileged : Bool) : Res State := s.memWrite a 1 v privileged

/-- The low byte, sign-extended (R330). -/
def signByte (v : Word) : Word := (v.extractLsb' 0 8).signExtend 32

/-- The low half, sign-extended (R332). -/
def signHalf (v : Word) : Word := (v.extractLsb' 0 16).signExtend 32

/-! ## Words and bytes -/

/-- LDR (R325, R331). -/
def execLdr (c : Cond) (idx : Indexing) (u : Bool) (rn rd : RegNum) (off : WordOffset) (s : State) :
    Host.Outcome State Fault Refusal :=
  finish (s.conditional c do
    checkTransfer (writesBack idx) rn rd (offsetReg off) true
    let a := s.wordAddress idx u rn off
    let v ← s.loadWord a.addr s.privileged
    if rd = 15 then (s.writeBase rn a).loadWritePc v else s.endLoad rn rd a v)

/-- LDRB (R326). -/
def execLdrb (c : Cond) (idx : Indexing) (u : Bool) (rn rd : RegNum) (off : WordOffset) (s : State) :
    Host.Outcome State Fault Refusal :=
  finish (s.conditional c do
    checkTransfer (writesBack idx) rn rd (offsetReg off) false
    let a := s.wordAddress idx u rn off
    let v ← s.loadByte a.addr s.privileged
    s.endLoad rn rd a v)

/-- STR (R340). -/
def execStr (c : Cond) (idx : Indexing) (u : Bool) (rn rd : RegNum) (off : WordOffset) (s : State) :
    Host.Outcome State Fault Refusal :=
  finish (s.conditional c do
    checkTransfer (writesBack idx) rn rd (offsetReg off) true
    let a := s.wordAddress idx u rn off
    let s1 ← s.storeWord a.addr (s.storeValue rd) s.privileged
    s1.endStore rn a)

/-- STRB (R341). -/
def execStrb (c : Cond) (idx : Indexing) (u : Bool) (rn rd : RegNum) (off : WordOffset) (s : State) :
    Host.Outcome State Fault Refusal :=
  finish (s.conditional c do
    checkTransfer (writesBack idx) rn rd (offsetReg off) false
    let a := s.wordAddress idx u rn off
    let s1 ← s.storeByte a.addr (s.reg rd) s.privileged
    s1.endStore rn a)

/-- LDRT: postindexed, with user privileges (R327). -/
def execLdrt (c : Cond) (u : Bool) (rn rd : RegNum) (off : WordOffset) (s : State) :
    Host.Outcome State Fault Refusal :=
  finish (s.conditional c do
    checkTransfer true rn rd (offsetReg off) false
    let a := s.wordAddress .post u rn off
    let v ← s.loadWord a.addr false
    s.endLoad rn rd a v)

/-- LDRBT: postindexed, with user privileges (R328). -/
def execLdrbt (c : Cond) (u : Bool) (rn rd : RegNum) (off : WordOffset) (s : State) :
    Host.Outcome State Fault Refusal :=
  finish (s.conditional c do
    checkTransfer true rn rd (offsetReg off) false
    let a := s.wordAddress .post u rn off
    let v ← s.loadByte a.addr false
    s.endLoad rn rd a v)

/-- STRT: postindexed, with user privileges (R342). -/
def execStrt (c : Cond) (u : Bool) (rn rd : RegNum) (off : WordOffset) (s : State) :
    Host.Outcome State Fault Refusal :=
  finish (s.conditional c do
    checkTransfer true rn rd (offsetReg off) false
    let a := s.wordAddress .post u rn off
    let s1 ← s.storeWord a.addr (s.reg rd) false
    s1.endStore rn a)

/-- STRBT: postindexed, with user privileges (R343). -/
def execStrbt (c : Cond) (u : Bool) (rn rd : RegNum) (off : WordOffset) (s : State) :
    Host.Outcome State Fault Refusal :=
  finish (s.conditional c do
    checkTransfer true rn rd (offsetReg off) false
    let a := s.wordAddress .post u rn off
    let s1 ← s.storeByte a.addr (s.reg rd) false
    s1.endStore rn a)

/-! ## Halfwords and signed bytes -/

/-- LDRH (R329). -/
def execLdrh (c : Cond) (idx : Indexing) (u : Bool) (rn rd : RegNum) (off : HalfOffset) (s : State) :
    Host.Outcome State Fault Refusal :=
  finish (s.conditional c do
    checkTransfer (writesBack idx) rn rd (halfOffsetReg off) false
    let a := s.halfAddress idx u rn off
    let v ← s.loadHalf a.addr s.privileged
    s.endLoad rn rd a v)

/-- LDRSB (R330). -/
def execLdrsb (c : Cond) (idx : Indexing) (u : Bool) (rn rd : RegNum) (off : HalfOffset) (s : State) :
    Host.Outcome State Fault Refusal :=
  finish (s.conditional c do
    checkTransfer (writesBack idx) rn rd (halfOffsetReg off) false
    let a := s.halfAddress idx u rn off
    let v ← s.loadByte a.addr s.privileged
    s.endLoad rn rd a (signByte v))

/-- LDRSH (R332). -/
def execLdrsh (c : Cond) (idx : Indexing) (u : Bool) (rn rd : RegNum) (off : HalfOffset) (s : State) :
    Host.Outcome State Fault Refusal :=
  finish (s.conditional c do
    checkTransfer (writesBack idx) rn rd (halfOffsetReg off) false
    let a := s.halfAddress idx u rn off
    let v ← s.loadHalf a.addr s.privileged
    s.endLoad rn rd a (signHalf v))

/-- STRH (R344). -/
def execStrh (c : Cond) (idx : Indexing) (u : Bool) (rn rd : RegNum) (off : HalfOffset) (s : State) :
    Host.Outcome State Fault Refusal :=
  finish (s.conditional c do
    checkTransfer (writesBack idx) rn rd (halfOffsetReg off) false
    let a := s.halfAddress idx u rn off
    let s1 ← s.storeHalf a.addr (s.reg rd) s.privileged
    s1.endStore rn a)

/-! ## Doublewords -/

/-- The restrictions of LDRD and STRD: an even Rd up to r12, no writeback to the pair, no offset register in the pair, and
those of R322 (R333, R346; spec/93_implementation_defined.md section 2, whose row names both; log 19). -/
def checkDoubleword (idx : Indexing) (rn rd : RegNum) (off : HalfOffset) : Res Unit := do
  checkPair rd
  let rm := halfOffsetReg off
  unpredictableIf (writesBack idx && (rn == rd || rn == nextReg rd)) .doublewordOverlap
  unpredictableIf (rm == some rd || rm == some (nextReg rd)) .doublewordOverlap
  checkTransfer (writesBack idx) rn rd rm false

/-- LDRD: neither register is written if the second access aborts (R333). -/
def execLdrd (c : Cond) (idx : Indexing) (u : Bool) (rn rd : RegNum) (off : HalfOffset) (s : State) :
    Host.Outcome State Fault Refusal :=
  finish (s.conditional c do
    checkDoubleword idx rn rd off
    let a := s.halfAddress idx u rn off
    s.checkDouble a.addr
    checkWrap a.addr 2
    let v0 ← s.memRead a.addr 4 s.privileged
    let v1 ← s.memRead (a.addr + 4) 4 s.privileged
    (((s.writeBase rn a).setReg rd v0).setReg (nextReg rd) v1).advance 4)

/-- STRD: the first word stays written if the second access aborts (R346). -/
def execStrd (c : Cond) (idx : Indexing) (u : Bool) (rn rd : RegNum) (off : HalfOffset) (s : State) :
    Host.Outcome State Fault Refusal :=
  finish (s.conditional c do
    checkDoubleword idx rn rd off
    let a := s.halfAddress idx u rn off
    s.checkDouble a.addr
    checkWrap a.addr 2
    let s1 ← s.memWrite a.addr 4 (s.reg rd) s.privileged
    let s2 ← s1.memWrite (a.addr + 4) 4 (s.reg (nextReg rd)) s.privileged
    s2.endStore rn a)

/-! ## Exclusives and swap -/

/-- LDREX: the access, then the mark (R334). -/
def execLdrex (c : Cond) (rn rd : RegNum) (s : State) : Host.Outcome State Fault Refusal :=
  finish (s.conditional c do
    unpredictableIf (rd == 15 || rn == 15) .exclusiveRegister
    s.checkExclusive (s.reg rn)
    let v ← s.memRead (s.reg rn) 4 s.privileged
    ((s.markExclusive (s.reg rn)).setReg rd v).advance 4)

/-- STREX: the monitor is tested and cleared, then the store; Rd tells whether it happened (R347). Its own store leaves the
monitor as the test did. -/
def execStrex (c : Cond) (rn rd rm : RegNum) (s : State) : Host.Outcome State Fault Refusal :=
  finish (s.conditional c do
    unpredictableIf (rd == 15 || rm == 15 || rn == 15 || rd == rn || rd == rm) .exclusiveRegister
    s.checkExclusive (s.reg rn)
    let test := s.isExclusive (s.reg rn)
    if test.1 then do
      let s1 ← test.2.memWrite (s.reg rn) 4 (s.reg rm) s.privileged
      (s1.setReg rd 0).advance 4
    else (test.2.setReg rd 1).advance 4)

/-- The register restrictions of SWP and SWPB (R350). -/
def checkSwap (rn rd rm : RegNum) : Res Unit :=
  unpredictableIf (rd == 15 || rm == 15 || rn == 15 || rn == rm || rn == rd) .swapRegister

/-- SWP: the read, the write, then Rd; the exclusive monitor is not touched (R350). -/
def execSwp (c : Cond) (rn rd rm : RegNum) (s : State) : Host.Outcome State Fault Refusal :=
  finish (s.conditional c do
    checkSwap rn rd rm
    s.checkExclusive (s.reg rn)
    let v ← s.memRead (s.reg rn) 4 s.privileged
    let s1 ← s.memWrite (s.reg rn) 4 (s.reg rm) s.privileged
    (s1.setReg rd v).advance 4)

/-- SWPB: as SWP, of one byte at any address (R351). -/
def execSwpb (c : Cond) (rn rd rm : RegNum) (s : State) : Host.Outcome State Fault Refusal :=
  finish (s.conditional c do
    checkSwap rn rd rm
    let v ← s.memRead (s.reg rn) 1 s.privileged
    let s1 ← s.memWrite (s.reg rn) 1 (s.reg rm) s.privileged
    (s1.setReg rd v).advance 4)

/-! ## Preload -/

/-- PLD: a hint; no access, no abort (R360). -/
def execPld (_u : Bool) (_rn : RegNum) (off : WordOffset) (s : State) : Host.Outcome State Fault Refusal :=
  finish do
    unpredictableIf (offsetReg off == some 15) .offsetPc
    s.advance 4

end Sys2Proof.Machine
end

