-- ==== Sys2Proof/Machine/LoadStoreMultiple.lean ====
section
/-! DEFINITION. LDM, STM, RFE and SRS (spec/45_load_store_multiple.md). -/

namespace Sys2Proof.Machine

/-- The tests on the addresses of a transfer of `n` words: alignment, then the top of memory (R108, R91). -/
def State.checkBlock (s : State) (start : Word) (n : Nat) : Res Unit := do
  s.checkMultiple start
  checkWrap start n

/-- The registers of a list written with the words of a list, in the bank of mode `m`; r15 is left to the caller. -/
def State.setRegs (s : State) (m : Option Mode) : List RegNum → List Word → State
  | r :: rs, v :: vs => (s.setRegIn m r v).setRegs m rs vs
  | _, _ => s

/-- The restrictions on the list and the base (R372, R377). -/
def checkList (list : BitVec 16) (rn : RegNum) : Res Unit := do
  unpredictableIf (list == 0) .emptyList
  unpredictableIf (rn == 15) .multipleBasePc

/-- The base written back where `!` is specified (R371). -/
def State.writeBlockBase (s : State) (w u : Bool) (rn : RegNum) (base : Word) (n : Nat) : State :=
  if w then s.setReg rn (blockBase u base n) else s

/-- The words of a load multiple, after its address tests (R372). -/
def State.loadBlock (s : State) (p u : Bool) (rn : RegNum) (n : Nat) : Res (List Word) := do
  let start := blockStart p u (s.reg rn) n
  s.checkBlock start n
  s.readWords start n

/-- LDM, with pc in the list a BX to the loaded address (R372, R373). -/
def execLdm (c : Cond) (p u w : Bool) (rn : RegNum) (list : BitVec 16) (s : State) :
    Host.Outcome State Fault Refusal :=
  finish (s.conditional c do
    checkList list rn
    let regs := regList list
    unpredictableIf (w && regs.contains rn) .baseInList
    let vs ← s.loadBlock p u rn regs.length
    let s1 := (s.writeBlockBase w u rn (s.reg rn) regs.length).setRegs s.mode? regs vs
    if list.getLsbD 15 then s1.loadWritePc (vs.getLastD 0) else s1.advance 4)

/-- LDM with `^` and pc not in the list: the user-mode registers (R374). -/
def execLdmUser (c : Cond) (p u w : Bool) (rn : RegNum) (list : BitVec 15) (s : State) :
    Host.Outcome State Fault Refusal :=
  finish (s.conditional c do
    checkList (list.setWidth 16) rn
    unpredictableIf s.spsrIndex?.isNone .userBankMode
    unpredictableIf w .userBankWriteback
    let regs := regList (list.setWidth 16)
    let vs ← s.loadBlock p u rn regs.length
    (s.setRegs (some .usr) regs vs).advance 4)

/-- LDM with `^` and pc in the list: return from exception (R375). -/
def execLdmReturn (c : Cond) (p u w : Bool) (rn : RegNum) (list : BitVec 15) (s : State) :
    Host.Outcome State Fault Refusal :=
  finish (s.conditional c do
    checkList (1#1 ++ list) rn
    unpredictableIf s.spsrIndex?.isNone .userBankMode
    let regs := regList (1#1 ++ list)
    unpredictableIf (w && regs.contains rn) .baseInList
    let vs ← s.loadBlock p u rn regs.length
    let psr ← s.needSpsr
    let s1 := (s.writeBlockBase w u rn (s.reg rn) regs.length).setRegs s.mode? regs vs
    s1.exceptionReturn psr (vs.getLastD 0))

/-- Whether STM stores a free value for the base: writeback, in the list, not the lowest (R378). -/
def baseUnknown (w : Bool) (rn : RegNum) (regs : List RegNum) : Bool :=
  w && regs.contains rn && regs.head? != some rn

/-- The words of a store multiple (`StoreValue`, R378); `unknown` is the free value of the base, where there is one. -/
def State.blockValues (s : State) (rn : RegNum) (unknown : Option Word) (regs : List RegNum) : List Word :=
  regs.map fun r => if r == rn then unknown.getD (s.storeValue r) else s.storeValue r

/-- STM (R377, R378). -/
def execStm (c : Cond) (p u w : Bool) (rn : RegNum) (list : BitVec 16) (s : State) :
    Host.Outcome State Fault Refusal :=
  finish (s.conditional c do
    checkList list rn
    let regs := regList list
    let start := blockStart p u (s.reg rn) regs.length
    s.checkBlock start regs.length
    let draw := baseUnknown w rn regs
    let s0 := if draw then s.drawWord.2 else s
    let s1 ← s0.writeWords start (s.blockValues rn (if draw then some s.drawWord.1 else none) regs)
    (s1.openMonitor.writeBlockBase w u rn (s.reg rn) regs.length).advance 4)

/-- STM with `^`: the user-mode registers (R379). -/
def execStmUser (c : Cond) (p u w : Bool) (rn : RegNum) (list : BitVec 16) (s : State) :
    Host.Outcome State Fault Refusal :=
  finish (s.conditional c do
    checkList list rn
    unpredictableIf s.spsrIndex?.isNone .userBankMode
    unpredictableIf w .userBankWriteback
    let regs := regList list
    let start := blockStart p u (s.reg rn) regs.length
    s.checkBlock start regs.length
    let s1 ← s.writeWords start
      (regs.map fun r => if r = 15 then s.storeValue r else s.regIn (some .usr) r)
    s1.openMonitor.advance 4)

/-- RFE: the lower word is the new pc, the higher the new cpsr (R382). -/
def execRfe (p u w : Bool) (rn : RegNum) (s : State) : Host.Outcome State Fault Refusal :=
  finish do
    unpredictableIf (!s.privileged) .rfeUserMode
    unpredictableIf (rn == 15) .multipleBasePc
    let vs ← s.loadBlock p u rn 2
    (s.writeBlockBase w u rn (s.reg rn) 2).exceptionReturn (vs.getLastD 0) (vs.headD 0)

/-- SRS: lr and the spsr of the current mode to the stack of the named mode (R383). -/
def execSrs (p u w : Bool) (mode : BitVec 5) (s : State) : Host.Outcome State Fault Refusal :=
  finish do
    let psr ← s.needSpsr
    match Mode.ofBits mode with
    | none => unpredictable .unlistedMode
    | some m => do
      let base := s.regIn (some m) 13
      let start := blockStart p u base 2
      s.checkBlock start 2
      let s2 ← s.writeWords start [s.reg 14, psr]
      let s1 := s2.openMonitor
      (if w then s1.setRegIn (some m) 13 (blockBase u base 2) else s1).advance 4

end Sys2Proof.Machine
end

