-- ==== Sys2Proof/Machine/Parallel.lean ====
section
/-! DEFINITION. The thirty-six parallel add and subtract instructions (spec/47_media.md R445 to R484), over one lane
framework. -/

namespace Sys2Proof.Machine

/-- Register 15 in a media instruction is UNPREDICTABLE (R440). -/
def checkMedia (regs : List RegNum) : Res Unit := unpredictableIf (regs.contains 15) .mediaPc

/-- The six operations (R445). -/
inductive LaneOp where
  | add16 | addsubx | subaddx | sub16 | add8 | sub8
deriving DecidableEq, Repr

/-- One lane: bit position, width, exact value, and whether it subtracts (R445). -/
structure Lane where
  pos : Nat
  width : Nat
  value : Int
  sub : Bool
deriving DecidableEq, Repr

/-- `ext` of a field: its signed or unsigned reading (R445). -/
def laneField (signed : Bool) (v : Word) (pos width : Nat) : Int :=
  if signed then (v.extractLsb' pos width).toInt else ((v.extractLsb' pos width).toNat : Int)

/-- The lane at `pos` of the first operand with the field at `pos2` of the second. -/
def laneAt (signed : Bool) (a b : Word) (width pos pos2 : Nat) (sub : Bool) : Lane :=
  let x := laneField signed a pos width
  let y := laneField signed b pos2 width
  ⟨pos, width, if sub then x - y else x + y, sub⟩

/-- The lanes of an operation, the highest first (R445). -/
def lanesOf (op : LaneOp) (signed : Bool) (a b : Word) : List Lane :=
  let l16 := laneAt signed a b 16
  let l8 := laneAt signed a b 8
  match op with
  | .add16 => [l16 16 16 false, l16 0 0 false]
  | .addsubx => [l16 16 0 false, l16 0 16 true]
  | .subaddx => [l16 16 0 true, l16 0 16 false]
  | .sub16 => [l16 16 16 true, l16 0 0 true]
  | .add8 => [l8 24 24 false, l8 16 16 false, l8 8 8 false, l8 0 0 false]
  | .sub8 => [l8 24 24 true, l8 16 16 true, l8 8 8 true, l8 0 0 true]

/-- The result word: `f` of each lane, cut to the lane. -/
def packLanes (f : Lane → Int) : List Lane → Word
  | [] => 0
  | l :: ls => ((BitVec.ofInt l.width (f l)).setWidth 32 <<< l.pos) ||| packLanes f ls

/-- Saturation of a lane, and whether it saturated (R446, R453). -/
def laneSat (signed : Bool) (l : Lane) : Int × Bool :=
  if signed then signedSat l.value l.width else unsignedSat l.value l.width

/-- The comparison of a lane (R459). -/
def laneGe (signed : Bool) (l : Lane) : Bool :=
  if signed || l.sub then decide (0 ≤ l.value) else decide ((2 ^ l.width : Int) ≤ l.value)

/-- `SetGE`: a lane of 16 bits sets two bits of GE, a lane of 8 bits one (R459). -/
def packGe (signed : Bool) : List Lane → BitVec 4
  | [] => 0
  | l :: ls =>
    (if laneGe signed l then (if l.width = 16 then 3#4 else 1#4) <<< (l.pos / 8) else 0) ||| packGe signed ls

/-- The Q and UQ prefixes: each lane saturated; Q where a lane saturated and `PARALLEL_SAT_SETS_Q` (R452). -/
def State.parallelSat (s : State) (op : LaneOp) (signed : Bool) (rn rd rm : RegNum) : Res State := do
  checkMedia [rn, rd, rm]
  let lanes := lanesOf op signed (s.reg rn) (s.reg rm)
  let sat := lanes.any fun l => (laneSat signed l).2
  ((s.setReg rd (packLanes (fun l => (laneSat signed l).1) lanes)).orQ (s.satSetsQ && sat)).advance 4

/-- The S and U prefixes: each lane wrapped, and the GE flags (R459). -/
def State.parallelMod (s : State) (op : LaneOp) (signed : Bool) (rn rd rm : RegNum) : Res State := do
  checkMedia [rn, rd, rm]
  let lanes := lanesOf op signed (s.reg rn) (s.reg rm)
  ((s.setReg rd (packLanes Lane.value lanes)).setGe (packGe signed lanes)).advance 4

/-- The SH and UH prefixes: each lane halved, rounding down, and no flag (R472). -/
def State.parallelHalf (s : State) (op : LaneOp) (signed : Bool) (rn rd rm : RegNum) : Res State := do
  checkMedia [rn, rd, rm]
  let lanes := lanesOf op signed (s.reg rn) (s.reg rm)
  (s.setReg rd (packLanes (fun l => l.value / 2) lanes)).advance 4

/-- QADD16 (R446). -/
def execQadd16 (c : Cond) (rn rd rm : RegNum) (s : State) : Host.Outcome State Fault Refusal :=
  finish (s.conditional c (s.parallelSat .add16 true rn rd rm))

/-- QADDSUBX (R447). -/
def execQaddsubx (c : Cond) (rn rd rm : RegNum) (s : State) : Host.Outcome State Fault Refusal :=
  finish (s.conditional c (s.parallelSat .addsubx true rn rd rm))

/-- QSUBADDX (R448). -/
def execQsubaddx (c : Cond) (rn rd rm : RegNum) (s : State) : Host.Outcome State Fault Refusal :=
  finish (s.conditional c (s.parallelSat .subaddx true rn rd rm))

/-- QSUB16 (R449). -/
def execQsub16 (c : Cond) (rn rd rm : RegNum) (s : State) : Host.Outcome State Fault Refusal :=
  finish (s.conditional c (s.parallelSat .sub16 true rn rd rm))

/-- QADD8 (R450). -/
def execQadd8 (c : Cond) (rn rd rm : RegNum) (s : State) : Host.Outcome State Fault Refusal :=
  finish (s.conditional c (s.parallelSat .add8 true rn rd rm))

/-- QSUB8 (R451). -/
def execQsub8 (c : Cond) (rn rd rm : RegNum) (s : State) : Host.Outcome State Fault Refusal :=
  finish (s.conditional c (s.parallelSat .sub8 true rn rd rm))

/-- UQADD16 (R453). -/
def execUqadd16 (c : Cond) (rn rd rm : RegNum) (s : State) : Host.Outcome State Fault Refusal :=
  finish (s.conditional c (s.parallelSat .add16 false rn rd rm))

/-- UQADDSUBX (R454). -/
def execUqaddsubx (c : Cond) (rn rd rm : RegNum) (s : State) : Host.Outcome State Fault Refusal :=
  finish (s.conditional c (s.parallelSat .addsubx false rn rd rm))

/-- UQSUBADDX (R455). -/
def execUqsubaddx (c : Cond) (rn rd rm : RegNum) (s : State) : Host.Outcome State Fault Refusal :=
  finish (s.conditional c (s.parallelSat .subaddx false rn rd rm))

/-- UQSUB16 (R456). -/
def execUqsub16 (c : Cond) (rn rd rm : RegNum) (s : State) : Host.Outcome State Fault Refusal :=
  finish (s.conditional c (s.parallelSat .sub16 false rn rd rm))

/-- UQADD8 (R457). -/
def execUqadd8 (c : Cond) (rn rd rm : RegNum) (s : State) : Host.Outcome State Fault Refusal :=
  finish (s.conditional c (s.parallelSat .add8 false rn rd rm))

/-- UQSUB8 (R458). -/
def execUqsub8 (c : Cond) (rn rd rm : RegNum) (s : State) : Host.Outcome State Fault Refusal :=
  finish (s.conditional c (s.parallelSat .sub8 false rn rd rm))

/-- SADD16 (R460). -/
def execSadd16 (c : Cond) (rn rd rm : RegNum) (s : State) : Host.Outcome State Fault Refusal :=
  finish (s.conditional c (s.parallelMod .add16 true rn rd rm))

/-- SADDSUBX (R461). -/
def execSaddsubx (c : Cond) (rn rd rm : RegNum) (s : State) : Host.Outcome State Fault Refusal :=
  finish (s.conditional c (s.parallelMod .addsubx true rn rd rm))

/-- SSUBADDX (R462). -/
def execSsubaddx (c : Cond) (rn rd rm : RegNum) (s : State) : Host.Outcome State Fault Refusal :=
  finish (s.conditional c (s.parallelMod .subaddx true rn rd rm))

/-- SSUB16 (R463). -/
def execSsub16 (c : Cond) (rn rd rm : RegNum) (s : State) : Host.Outcome State Fault Refusal :=
  finish (s.conditional c (s.parallelMod .sub16 true rn rd rm))

/-- SADD8 (R464). -/
def execSadd8 (c : Cond) (rn rd rm : RegNum) (s : State) : Host.Outcome State Fault Refusal :=
  finish (s.conditional c (s.parallelMod .add8 true rn rd rm))

/-- SSUB8 (R465). -/
def execSsub8 (c : Cond) (rn rd rm : RegNum) (s : State) : Host.Outcome State Fault Refusal :=
  finish (s.conditional c (s.parallelMod .sub8 true rn rd rm))

/-- UADD16 (R466). -/
def execUadd16 (c : Cond) (rn rd rm : RegNum) (s : State) : Host.Outcome State Fault Refusal :=
  finish (s.conditional c (s.parallelMod .add16 false rn rd rm))

/-- UADDSUBX (R467). -/
def execUaddsubx (c : Cond) (rn rd rm : RegNum) (s : State) : Host.Outcome State Fault Refusal :=
  finish (s.conditional c (s.parallelMod .addsubx false rn rd rm))

/-- USUBADDX (R468). -/
def execUsubaddx (c : Cond) (rn rd rm : RegNum) (s : State) : Host.Outcome State Fault Refusal :=
  finish (s.conditional c (s.parallelMod .subaddx false rn rd rm))

/-- USUB16 (R469). -/
def execUsub16 (c : Cond) (rn rd rm : RegNum) (s : State) : Host.Outcome State Fault Refusal :=
  finish (s.conditional c (s.parallelMod .sub16 false rn rd rm))

/-- UADD8 (R470). -/
def execUadd8 (c : Cond) (rn rd rm : RegNum) (s : State) : Host.Outcome State Fault Refusal :=
  finish (s.conditional c (s.parallelMod .add8 false rn rd rm))

/-- USUB8 (R471). -/
def execUsub8 (c : Cond) (rn rd rm : RegNum) (s : State) : Host.Outcome State Fault Refusal :=
  finish (s.conditional c (s.parallelMod .sub8 false rn rd rm))

/-- SHADD16 (R473). -/
def execShadd16 (c : Cond) (rn rd rm : RegNum) (s : State) : Host.Outcome State Fault Refusal :=
  finish (s.conditional c (s.parallelHalf .add16 true rn rd rm))

/-- SHADDSUBX (R474). -/
def execShaddsubx (c : Cond) (rn rd rm : RegNum) (s : State) : Host.Outcome State Fault Refusal :=
  finish (s.conditional c (s.parallelHalf .addsubx true rn rd rm))

/-- SHSUBADDX (R475). -/
def execShsubaddx (c : Cond) (rn rd rm : RegNum) (s : State) : Host.Outcome State Fault Refusal :=
  finish (s.conditional c (s.parallelHalf .subaddx true rn rd rm))

/-- SHSUB16 (R476). -/
def execShsub16 (c : Cond) (rn rd rm : RegNum) (s : State) : Host.Outcome State Fault Refusal :=
  finish (s.conditional c (s.parallelHalf .sub16 true rn rd rm))

/-- SHADD8 (R477). -/
def execShadd8 (c : Cond) (rn rd rm : RegNum) (s : State) : Host.Outcome State Fault Refusal :=
  finish (s.conditional c (s.parallelHalf .add8 true rn rd rm))

/-- SHSUB8 (R478). -/
def execShsub8 (c : Cond) (rn rd rm : RegNum) (s : State) : Host.Outcome State Fault Refusal :=
  finish (s.conditional c (s.parallelHalf .sub8 true rn rd rm))

/-- UHADD16 (R479). -/
def execUhadd16 (c : Cond) (rn rd rm : RegNum) (s : State) : Host.Outcome State Fault Refusal :=
  finish (s.conditional c (s.parallelHalf .add16 false rn rd rm))

/-- UHADDSUBX (R480). -/
def execUhaddsubx (c : Cond) (rn rd rm : RegNum) (s : State) : Host.Outcome State Fault Refusal :=
  finish (s.conditional c (s.parallelHalf .addsubx false rn rd rm))

/-- UHSUBADDX (R481). -/
def execUhsubaddx (c : Cond) (rn rd rm : RegNum) (s : State) : Host.Outcome State Fault Refusal :=
  finish (s.conditional c (s.parallelHalf .subaddx false rn rd rm))

/-- UHSUB16 (R482). -/
def execUhsub16 (c : Cond) (rn rd rm : RegNum) (s : State) : Host.Outcome State Fault Refusal :=
  finish (s.conditional c (s.parallelHalf .sub16 false rn rd rm))

/-- UHADD8 (R483). -/
def execUhadd8 (c : Cond) (rn rd rm : RegNum) (s : State) : Host.Outcome State Fault Refusal :=
  finish (s.conditional c (s.parallelHalf .add8 false rn rd rm))

/-- UHSUB8 (R484). -/
def execUhsub8 (c : Cond) (rn rd rm : RegNum) (s : State) : Host.Outcome State Fault Refusal :=
  finish (s.conditional c (s.parallelHalf .sub8 false rn rd rm))

end Sys2Proof.Machine
end

