-- ==== Sys2Proof/Machine/Media.lean ====
section
/-! DEFINITION. Saturating arithmetic, select, saturate, extend, pack, reverse and sum of differences
(spec/47_media.md R441 to R444, R485 to R509). -/

namespace Sys2Proof.Machine

/-! ## Saturating 32-bit arithmetic -/

/-- `sat32(Rm op v)` to Rd; Q where it saturated, or `q` (R441 to R444). -/
def State.writeSat32 (s : State) (rd : RegNum) (exact : Int) (q : Bool) : State :=
  (s.setReg rd (BitVec.ofInt 32 (signedSat exact 32).1)).orQ (q || (signedSat exact 32).2)

/-- `sat32(2 * Rn)` and whether it saturated (R442). -/
def State.doubled (s : State) (rn : RegNum) : Int × Bool := signedSat (2 * (s.reg rn).toInt) 32

/-- QADD (R441). -/
def execQadd (c : Cond) (rn rd rm : RegNum) (s : State) : Host.Outcome State Fault Refusal :=
  finish (s.conditional c do
    checkMedia [rn, rd, rm]
    (s.writeSat32 rd ((s.reg rm).toInt + (s.reg rn).toInt) false).advance 4)

/-- QSUB (R443). -/
def execQsub (c : Cond) (rn rd rm : RegNum) (s : State) : Host.Outcome State Fault Refusal :=
  finish (s.conditional c do
    checkMedia [rn, rd, rm]
    (s.writeSat32 rd ((s.reg rm).toInt - (s.reg rn).toInt) false).advance 4)

/-- QDADD (R442). -/
def execQdadd (c : Cond) (rn rd rm : RegNum) (s : State) : Host.Outcome State Fault Refusal :=
  finish (s.conditional c do
    checkMedia [rn, rd, rm]
    (s.writeSat32 rd ((s.reg rm).toInt + (s.doubled rn).1) (s.doubled rn).2).advance 4)

/-- QDSUB (R444). -/
def execQdsub (c : Cond) (rn rd rm : RegNum) (s : State) : Host.Outcome State Fault Refusal :=
  finish (s.conditional c do
    checkMedia [rn, rd, rm]
    (s.writeSat32 rd ((s.reg rm).toInt - (s.doubled rn).1) (s.doubled rn).2).advance 4)

/-! ## Pack, saturate, select -/

/-- PKHBT (R503). -/
def execPkhbt (c : Cond) (rn rd : RegNum) (amount : BitVec 5) (rm : RegNum) (s : State) :
    Host.Outcome State Fault Refusal :=
  finish (s.conditional c do
    checkMedia [rn, rd, rm]
    let sh := (immShift (s.reg rm) .lsl amount false).1
    (s.setReg rd ((sh &&& 0xFFFF0000) ||| (s.reg rn &&& 0x0000FFFF))).advance 4)

/-- PKHTB: a shift field of 0 is ASR #32 (R504). -/
def execPkhtb (c : Cond) (rn rd : RegNum) (amount : BitVec 5) (rm : RegNum) (s : State) :
    Host.Outcome State Fault Refusal :=
  finish (s.conditional c do
    checkMedia [rn, rd, rm]
    let sh := (immShift (s.reg rm) .asr amount false).1
    (s.setReg rd ((s.reg rn &&& 0xFFFF0000) ||| (sh &&& 0x0000FFFF))).advance 4)

/-- The shifted operand of SSAT and USAT, read as signed (R486). -/
def State.satOperand (s : State) (amount : BitVec 5) (asr : Bool) (rm : RegNum) : Int :=
  (immShift (s.reg rm) (if asr then .asr else .lsl) amount false).1.toInt

/-- SSAT to 1 + `sat` bits (R486). -/
def execSsat (c : Cond) (sat : BitVec 5) (rd : RegNum) (amount : BitVec 5) (asr : Bool) (rm : RegNum) (s : State) :
    Host.Outcome State Fault Refusal :=
  finish (s.conditional c do
    checkMedia [rd, rm]
    let r := signedSat (s.satOperand amount asr rm) (sat.toNat + 1)
    ((s.setReg rd (BitVec.ofInt 32 r.1)).orQ r.2).advance 4)

/-- USAT to `sat` bits (R487). -/
def execUsat (c : Cond) (sat : BitVec 5) (rd : RegNum) (amount : BitVec 5) (asr : Bool) (rm : RegNum) (s : State) :
    Host.Outcome State Fault Refusal :=
  finish (s.conditional c do
    checkMedia [rd, rm]
    let r := unsignedSat (s.satOperand amount asr rm) sat.toNat
    ((s.setReg rd (BitVec.ofInt 32 r.1)).orQ r.2).advance 4)

/-- Two saturated halves to Rd (R488). -/
def State.writeSat16 (s : State) (rd : RegNum) (hi lo : Int × Bool) : State :=
  (s.setReg rd (BitVec.ofInt 16 hi.1 ++ BitVec.ofInt 16 lo.1)).orQ (hi.2 || lo.2)

/-- SSAT16 to 1 + `sat` bits (R488). -/
def execSsat16 (c : Cond) (sat : BitVec 4) (rd rm : RegNum) (s : State) : Host.Outcome State Fault Refusal :=
  finish (s.conditional c do
    checkMedia [rd, rm]
    let n := sat.toNat + 1
    (s.writeSat16 rd (signedSat (half (s.reg rm) true) n) (signedSat (half (s.reg rm) false) n)).advance 4)

/-- USAT16 to `sat` bits (R489). -/
def execUsat16 (c : Cond) (sat : BitVec 4) (rd rm : RegNum) (s : State) : Host.Outcome State Fault Refusal :=
  finish (s.conditional c do
    checkMedia [rd, rm]
    let n := sat.toNat
    (s.writeSat16 rd (unsignedSat (half (s.reg rm) true) n) (unsignedSat (half (s.reg rm) false) n)).advance 4)

/-- Byte `k` of a word. -/
def byteOf (w : Word) (k : Nat) : Byte := w.extractLsb' (8 * k) 8

/-- SEL (R485). -/
def execSel (c : Cond) (rn rd rm : RegNum) (s : State) : Host.Outcome State Fault Refusal :=
  finish (s.conditional c do
    checkMedia [rn, rd, rm]
    let pick := fun (k : Nat) => byteOf (if s.ge.getLsbD k then s.reg rn else s.reg rm) k
    (s.setReg rd (pick 3 ++ pick 2 ++ pick 1 ++ pick 0)).advance 4)

/-! ## Byte reversal -/

/-- The bytes of a word in reverse order (R505). -/
def reverseWord (m : Word) : Word := byteOf m 0 ++ byteOf m 1 ++ byteOf m 2 ++ byteOf m 3

/-- The bytes of each half in reverse order (R506). -/
def reverseHalves (m : Word) : Word := byteOf m 2 ++ byteOf m 3 ++ byteOf m 0 ++ byteOf m 1

/-- The bytes of the bottom half in reverse order, sign-extended (R507). -/
def reverseSigned (m : Word) : Word := (byteOf m 0 ++ byteOf m 1 : BitVec 16).signExtend 32

/-- REV (R505). -/
def execRev (c : Cond) (rd rm : RegNum) (s : State) : Host.Outcome State Fault Refusal :=
  finish (s.conditional c do
    checkMedia [rd, rm]
    (s.setReg rd (reverseWord (s.reg rm))).advance 4)

/-- REV16 (R506). -/
def execRev16 (c : Cond) (rd rm : RegNum) (s : State) : Host.Outcome State Fault Refusal :=
  finish (s.conditional c do
    checkMedia [rd, rm]
    (s.setReg rd (reverseHalves (s.reg rm))).advance 4)

/-- REVSH (R507). -/
def execRevsh (c : Cond) (rd rm : RegNum) (s : State) : Host.Outcome State Fault Refusal :=
  finish (s.conditional c do
    checkMedia [rd, rm]
    (s.setReg rd (reverseSigned (s.reg rm))).advance 4)

/-! ## Extend -/

/-- `extend(x)`: sign or zero extension (R490). -/
def extend {n : Nat} (signed : Bool) (m : Nat) (x : BitVec n) : BitVec m :=
  if signed then x.signExtend m else x.setWidth m

/-- `<shifted_Rm>`: Rm rotated right by 8 * rot (R490). -/
def State.rotatedRm (s : State) (rot : BitVec 2) (rm : RegNum) : Word := (s.reg rm).rotateRight (8 * rot.toNat)

/-- The two extended bytes of the 16 forms added to the halves of `acc`, with no carry between them (R491, R494). -/
def extendB16 (signed : Bool) (acc sh : Word) : Word :=
  (acc.extractLsb' 16 16 + extend signed 16 (sh.extractLsb' 16 8)) ++
    (acc.extractLsb' 0 16 + extend signed 16 (sh.extractLsb' 0 8))

/-- The extended bottom byte (R492). -/
def extendB (signed : Bool) (sh : Word) : Word := extend signed 32 (sh.extractLsb' 0 8)

/-- The extended bottom half (R493). -/
def extendH (signed : Bool) (sh : Word) : Word := extend signed 32 (sh.extractLsb' 0 16)

/-- SXTAB16 (R494). -/
def execSxtab16 (c : Cond) (rn rd : RegNum) (rot : BitVec 2) (rm : RegNum) (s : State) :
    Host.Outcome State Fault Refusal :=
  finish (s.conditional c do
    checkMedia [rn, rd, rm]
    (s.setReg rd (extendB16 true (s.reg rn) (s.rotatedRm rot rm))).advance 4)

/-- SXTB16 (R491). -/
def execSxtb16 (c : Cond) (rd : RegNum) (rot : BitVec 2) (rm : RegNum) (s : State) :
    Host.Outcome State Fault Refusal :=
  finish (s.conditional c do
    checkMedia [rd, rm]
    (s.setReg rd (extendB16 true 0 (s.rotatedRm rot rm))).advance 4)

/-- SXTAB (R495). -/
def execSxtab (c : Cond) (rn rd : RegNum) (rot : BitVec 2) (rm : RegNum) (s : State) :
    Host.Outcome State Fault Refusal :=
  finish (s.conditional c do
    checkMedia [rn, rd, rm]
    (s.setReg rd (s.reg rn + extendB true (s.rotatedRm rot rm))).advance 4)

/-- SXTB (R492). -/
def execSxtb (c : Cond) (rd : RegNum) (rot : BitVec 2) (rm : RegNum) (s : State) :
    Host.Outcome State Fault Refusal :=
  finish (s.conditional c do
    checkMedia [rd, rm]
    (s.setReg rd (extendB true (s.rotatedRm rot rm))).advance 4)

/-- SXTAH (R496). -/
def execSxtah (c : Cond) (rn rd : RegNum) (rot : BitVec 2) (rm : RegNum) (s : State) :
    Host.Outcome State Fault Refusal :=
  finish (s.conditional c do
    checkMedia [rn, rd, rm]
    (s.setReg rd (s.reg rn + extendH true (s.rotatedRm rot rm))).advance 4)

/-- SXTH (R493). -/
def execSxth (c : Cond) (rd : RegNum) (rot : BitVec 2) (rm : RegNum) (s : State) :
    Host.Outcome State Fault Refusal :=
  finish (s.conditional c do
    checkMedia [rd, rm]
    (s.setReg rd (extendH true (s.rotatedRm rot rm))).advance 4)

/-- UXTAB16 (R500). -/
def execUxtab16 (c : Cond) (rn rd : RegNum) (rot : BitVec 2) (rm : RegNum) (s : State) :
    Host.Outcome State Fault Refusal :=
  finish (s.conditional c do
    checkMedia [rn, rd, rm]
    (s.setReg rd (extendB16 false (s.reg rn) (s.rotatedRm rot rm))).advance 4)

/-- UXTB16 (R497). -/
def execUxtb16 (c : Cond) (rd : RegNum) (rot : BitVec 2) (rm : RegNum) (s : State) :
    Host.Outcome State Fault Refusal :=
  finish (s.conditional c do
    checkMedia [rd, rm]
    (s.setReg rd (extendB16 false 0 (s.rotatedRm rot rm))).advance 4)

/-- UXTAB (R501). -/
def execUxtab (c : Cond) (rn rd : RegNum) (rot : BitVec 2) (rm : RegNum) (s : State) :
    Host.Outcome State Fault Refusal :=
  finish (s.conditional c do
    checkMedia [rn, rd, rm]
    (s.setReg rd (s.reg rn + extendB false (s.rotatedRm rot rm))).advance 4)

/-- UXTB (R498). -/
def execUxtb (c : Cond) (rd : RegNum) (rot : BitVec 2) (rm : RegNum) (s : State) :
    Host.Outcome State Fault Refusal :=
  finish (s.conditional c do
    checkMedia [rd, rm]
    (s.setReg rd (extendB false (s.rotatedRm rot rm))).advance 4)

/-- UXTAH (R502). -/
def execUxtah (c : Cond) (rn rd : RegNum) (rot : BitVec 2) (rm : RegNum) (s : State) :
    Host.Outcome State Fault Refusal :=
  finish (s.conditional c do
    checkMedia [rn, rd, rm]
    (s.setReg rd (s.reg rn + extendH false (s.rotatedRm rot rm))).advance 4)

/-- UXTH (R499). -/
def execUxth (c : Cond) (rd : RegNum) (rot : BitVec 2) (rm : RegNum) (s : State) :
    Host.Outcome State Fault Refusal :=
  finish (s.conditional c do
    checkMedia [rd, rm]
    (s.setReg rd (extendH false (s.rotatedRm rot rm))).advance 4)

/-! ## Sum of absolute differences -/

/-- The sum of the absolute differences of the low `n` bytes (R508). -/
def sumDiff (a b : Word) : Nat → Nat
  | 0 => 0
  | n + 1 => (((byteOf a n).toNat : Int) - ((byteOf b n).toNat : Int)).natAbs + sumDiff a b n

/-- USADA8 (R509). -/
def execUsada8 (c : Cond) (rd rn rs rm : RegNum) (s : State) : Host.Outcome State Fault Refusal :=
  finish (s.conditional c do
    checkMedia [rd, rn, rs, rm]
    (s.setReg rd (s.reg rn + BitVec.ofNat 32 (sumDiff (s.reg rm) (s.reg rs) 4))).advance 4)

/-- USAD8 (R508). -/
def execUsad8 (c : Cond) (rd rs rm : RegNum) (s : State) : Host.Outcome State Fault Refusal :=
  finish (s.conditional c do
    checkMedia [rd, rs, rm]
    (s.setReg rd (BitVec.ofNat 32 (sumDiff (s.reg rm) (s.reg rs) 4))).advance 4)

end Sys2Proof.Machine
end

