-- ==== Sys2Proof/Machine/Multiply.lean ====
section
/-! DEFINITION. The ARM multiply instructions (spec/46_multiply.md). Products are exact integers before they are cut to
the destination. -/

namespace Sys2Proof.Machine

/-- The register restrictions of the multiplies (R391). -/
def checkMul (regs : List RegNum) (overlap : Bool) : Res Unit := do
  unpredictableIf (regs.contains 15) .multiplyPc
  unpredictableIf overlap .multiplyOverlap

/-- A 32-bit product to Rd; with S, N and Z of it, C a free value, V preserved (R392, R399). -/
def State.writeMul (s : State) (sf : Bool) (rd : RegNum) (r : Word) : State :=
  if sf then ((s.setReg rd r).drawBit.2).setNZC r s.drawBit.1 else s.setReg rd r

/-- A 64-bit result to RdHi:RdLo (R394). -/
def State.writePair (s : State) (rdHi rdLo : RegNum) (r : BitVec 64) : State :=
  (s.setReg rdLo (r.extractLsb' 0 32)).setReg rdHi (r.extractLsb' 32 32)

/-- A 64-bit result; with S, N and Z of it, C and V free values (R394, R399). -/
def State.writeLong (s : State) (sf : Bool) (rdHi rdLo : RegNum) (r : BitVec 64) : State :=
  if sf then (((s.writePair rdHi rdLo r).drawBit.2).drawBit.2).setLongFlags r s.drawBit.1 s.drawBit.2.drawBit.1
  else s.writePair rdHi rdLo r

/-- `WriteQ32(exact)`: the wrapped sum to Rd, Q set where it does not fit (R414). -/
def State.writeQ32 (s : State) (rd : RegNum) (exact : Int) : State :=
  (s.setReg rd (BitVec.ofInt 32 exact)).orQ (decide ((BitVec.ofInt 32 exact).toInt ≠ exact))

/-- `uint(x[RdHi]) * 2^32 + uint(x[RdLo])` (R395). -/
def State.accumulator (s : State) (rdHi rdLo : RegNum) : Int := ((s.reg rdHi ++ s.reg rdLo : BitVec 64).toNat : Int)

/-- The unsigned product of two registers. -/
def State.umul (s : State) (rm rs : RegNum) : Int := ((s.reg rm).toNat * (s.reg rs).toNat : Nat)

/-- The signed product of two registers. -/
def State.smul (s : State) (rm rs : RegNum) : Int := (s.reg rm).toInt * (s.reg rs).toInt

/-- `Half(x[Rm], x) * Half(x[Rs], y)` (R390). -/
def State.halfMul (s : State) (rm rs : RegNum) (x y : Bool) : Int := half (s.reg rm) x * half (s.reg rs) y

/-- `floor(sint(x[Rm]) * Half(x[Rs], y) / 2^16)` (R401). -/
def State.wideMul (s : State) (rm rs : RegNum) (y : Bool) : Int := (s.reg rm).toInt * half (s.reg rs) y / 65536

/-- `RotRs(X)` (R390). -/
def State.rotRs (s : State) (x : Bool) (rs : RegNum) : Word := if x then (s.reg rs).rotateRight 16 else s.reg rs

/-- The products of the bottom halves and of the top halves (R402). -/
def State.dualMul (s : State) (x : Bool) (rm rs : RegNum) : Int × Int :=
  (half (s.reg rm) false * half (s.rotRs x rs) false, half (s.reg rm) true * half (s.rotRs x rs) true)

/-- The restrictions of the long multiplies of R394. -/
def checkLong (rdHi rdLo rs rm : RegNum) : Res Unit :=
  checkMul [rdHi, rdLo, rs, rm] (rdHi == rdLo || rm == rdHi || rm == rdLo)

/-- MUL (R392). -/
def execMul (c : Cond) (sf : Bool) (rd rs rm : RegNum) (s : State) : Host.Outcome State Fault Refusal :=
  finish (s.conditional c do
    checkMul [rd, rm, rs] (rd == rm)
    (s.writeMul sf rd (BitVec.ofInt 32 (s.umul rm rs))).advance 4)

/-- MLA (R393). -/
def execMla (c : Cond) (sf : Bool) (rd rn rs rm : RegNum) (s : State) : Host.Outcome State Fault Refusal :=
  finish (s.conditional c do
    checkMul [rd, rm, rs, rn] (rd == rm)
    (s.writeMul sf rd (BitVec.ofInt 32 ((s.reg rn).toNat + s.umul rm rs))).advance 4)

/-- UMAAL (R398). -/
def execUmaal (c : Cond) (rdHi rdLo rs rm : RegNum) (s : State) : Host.Outcome State Fault Refusal :=
  finish (s.conditional c do
    checkMul [rdHi, rdLo, rm, rs] (rdHi == rdLo)
    let r := s.umul rm rs + (s.reg rdLo).toNat + (s.reg rdHi).toNat
    (s.writePair rdHi rdLo (BitVec.ofInt 64 r)).advance 4)

/-- UMULL (R394). -/
def execUmull (c : Cond) (sf : Bool) (rdHi rdLo rs rm : RegNum) (s : State) : Host.Outcome State Fault Refusal :=
  finish (s.conditional c do
    checkLong rdHi rdLo rs rm
    (s.writeLong sf rdHi rdLo (BitVec.ofInt 64 (s.umul rm rs))).advance 4)

/-- UMLAL (R395). -/
def execUmlal (c : Cond) (sf : Bool) (rdHi rdLo rs rm : RegNum) (s : State) : Host.Outcome State Fault Refusal :=
  finish (s.conditional c do
    checkLong rdHi rdLo rs rm
    (s.writeLong sf rdHi rdLo (BitVec.ofInt 64 (s.accumulator rdHi rdLo + s.umul rm rs))).advance 4)

/-- SMULL (R396). -/
def execSmull (c : Cond) (sf : Bool) (rdHi rdLo rs rm : RegNum) (s : State) : Host.Outcome State Fault Refusal :=
  finish (s.conditional c do
    checkLong rdHi rdLo rs rm
    (s.writeLong sf rdHi rdLo (BitVec.ofInt 64 (s.smul rm rs))).advance 4)

/-- SMLAL (R397). -/
def execSmlal (c : Cond) (sf : Bool) (rdHi rdLo rs rm : RegNum) (s : State) : Host.Outcome State Fault Refusal :=
  finish (s.conditional c do
    checkLong rdHi rdLo rs rm
    (s.writeLong sf rdHi rdLo (BitVec.ofInt 64 (s.accumulator rdHi rdLo + s.smul rm rs))).advance 4)

/-- SMLA with halves (R400). -/
def execSmlaxy (c : Cond) (rd rn rs : RegNum) (y x : Bool) (rm : RegNum) (s : State) :
    Host.Outcome State Fault Refusal :=
  finish (s.conditional c do
    checkMul [rd, rn, rs, rm] false
    (s.writeQ32 rd ((s.reg rn).toInt + s.halfMul rm rs x y)).advance 4)

/-- SMLAW (R401). -/
def execSmlawy (c : Cond) (rd rn rs : RegNum) (y : Bool) (rm : RegNum) (s : State) :
    Host.Outcome State Fault Refusal :=
  finish (s.conditional c do
    checkMul [rd, rn, rs, rm] false
    (s.writeQ32 rd ((s.reg rn).toInt + s.wideMul rm rs y)).advance 4)

/-- SMULW (R408). -/
def execSmulwy (c : Cond) (rd rs : RegNum) (y : Bool) (rm : RegNum) (s : State) : Host.Outcome State Fault Refusal :=
  finish (s.conditional c do
    checkMul [rd, rs, rm] false
    (s.setReg rd (BitVec.ofInt 32 (s.wideMul rm rs y))).advance 4)

/-- SMLAL with halves (R404). -/
def execSmlalxy (c : Cond) (rdHi rdLo rs : RegNum) (y x : Bool) (rm : RegNum) (s : State) :
    Host.Outcome State Fault Refusal :=
  finish (s.conditional c do
    checkMul [rdHi, rdLo, rs, rm] (rdHi == rdLo)
    (s.writePair rdHi rdLo (BitVec.ofInt 64 (s.accumulator rdHi rdLo + s.halfMul rm rs x y))).advance 4)

/-- SMUL with halves (R407). -/
def execSmulxy (c : Cond) (rd rs : RegNum) (y x : Bool) (rm : RegNum) (s : State) :
    Host.Outcome State Fault Refusal :=
  finish (s.conditional c do
    checkMul [rd, rs, rm] false
    (s.setReg rd (BitVec.ofInt 32 (s.halfMul rm rs x y))).advance 4)

/-- SMLAD (R402). -/
def execSmlad (c : Cond) (rd rn rs : RegNum) (x : Bool) (rm : RegNum) (s : State) :
    Host.Outcome State Fault Refusal :=
  finish (s.conditional c do
    checkMul [rd, rn, rs, rm] false
    (s.writeQ32 rd ((s.reg rn).toInt + (s.dualMul x rm rs).1 + (s.dualMul x rm rs).2)).advance 4)

/-- SMUAD (R409). -/
def execSmuad (c : Cond) (rd rs : RegNum) (x : Bool) (rm : RegNum) (s : State) : Host.Outcome State Fault Refusal :=
  finish (s.conditional c do
    checkMul [rd, rs, rm] false
    (s.writeQ32 rd ((s.dualMul x rm rs).1 + (s.dualMul x rm rs).2)).advance 4)

/-- SMLSD (R403). -/
def execSmlsd (c : Cond) (rd rn rs : RegNum) (x : Bool) (rm : RegNum) (s : State) :
    Host.Outcome State Fault Refusal :=
  finish (s.conditional c do
    checkMul [rd, rn, rs, rm] false
    (s.writeQ32 rd ((s.reg rn).toInt + (s.dualMul x rm rs).1 - (s.dualMul x rm rs).2)).advance 4)

/-- SMUSD: the difference always fits, Q is never changed (R410, R414). -/
def execSmusd (c : Cond) (rd rs : RegNum) (x : Bool) (rm : RegNum) (s : State) : Host.Outcome State Fault Refusal :=
  finish (s.conditional c do
    checkMul [rd, rs, rm] false
    (s.setReg rd (BitVec.ofInt 32 ((s.dualMul x rm rs).1 - (s.dualMul x rm rs).2))).advance 4)

/-- SMLALD (R405). -/
def execSmlald (c : Cond) (rdHi rdLo rs : RegNum) (x : Bool) (rm : RegNum) (s : State) :
    Host.Outcome State Fault Refusal :=
  finish (s.conditional c do
    checkMul [rdHi, rdLo, rs, rm] (rdHi == rdLo)
    let r := s.accumulator rdHi rdLo + (s.dualMul x rm rs).1 + (s.dualMul x rm rs).2
    (s.writePair rdHi rdLo (BitVec.ofInt 64 r)).advance 4)

/-- SMLSLD (R406). -/
def execSmlsld (c : Cond) (rdHi rdLo rs : RegNum) (x : Bool) (rm : RegNum) (s : State) :
    Host.Outcome State Fault Refusal :=
  finish (s.conditional c do
    checkMul [rdHi, rdLo, rs, rm] (rdHi == rdLo)
    let r := s.accumulator rdHi rdLo + (s.dualMul x rm rs).1 - (s.dualMul x rm rs).2
    (s.writePair rdHi rdLo (BitVec.ofInt 64 r)).advance 4)

/-- The top word of a sum, rounded with the R suffix (R411). -/
def topWord (exact : Int) (round : Bool) : Word :=
  (BitVec.ofInt 64 (exact + if round then 2147483648 else 0)).extractLsb' 32 32

/-- SMMLA (R412). -/
def execSmmla (c : Cond) (rd rn rs : RegNum) (r : Bool) (rm : RegNum) (s : State) :
    Host.Outcome State Fault Refusal :=
  finish (s.conditional c do
    checkMul [rd, rm, rs, rn] false
    (s.setReg rd (topWord (((s.reg rn).toNat : Int) * 4294967296 + s.smul rm rs) r)).advance 4)

/-- SMMUL (R411). -/
def execSmmul (c : Cond) (rd rs : RegNum) (r : Bool) (rm : RegNum) (s : State) : Host.Outcome State Fault Refusal :=
  finish (s.conditional c do
    checkMul [rd, rm, rs] false
    (s.setReg rd (topWord (s.smul rm rs) r)).advance 4)

/-- SMMLS (R413). -/
def execSmmls (c : Cond) (rd rn rs : RegNum) (r : Bool) (rm : RegNum) (s : State) :
    Host.Outcome State Fault Refusal :=
  finish (s.conditional c do
    checkMul [rd, rm, rs, rn] false
    (s.setReg rd (topWord (((s.reg rn).toNat : Int) * 4294967296 - s.smul rm rs) r)).advance 4)

end Sys2Proof.Machine
end

