-- ==== Sys2Proof/Machine/System.lean ====
section
/-! DEFINITION. The ARM status-register and system instructions (spec/43_system.md), and the operations that the Thumb
forms share with them. -/

namespace Sys2Proof.Machine

/-! ## CPS -/

/-- `mask` of CPS from the letters a, i, f (R300). -/
def cpsMask (a i f : Bool) : Word := setBit (setBit (setBit 0 8 a) 7 i) 6 f

/-- `cpsr.mode <- mode`, UNPREDICTABLE for an unlisted mode (R301). -/
def State.changeMode (s : State) (mode : BitVec 5) : Res State :=
  if (Mode.ofBits mode).isNone then unpredictable .unlistedMode else .ok (s.setModeField mode)

/-- CPSID sets, CPSIE clears the bits under the mask (R302). -/
def State.maskBits (s : State) (disable : Bool) (mask : Word) : State :=
  s.setCpsr (if disable then s.cpsr ||| mask else s.cpsr &&& ~~~mask)

/-- CPS to a mode: no effect in user mode (R301). -/
def execCpsMode (mode : BitVec 5) (s : State) : Host.Outcome State Fault Refusal :=
  finish do
    let s1 ← if s.privileged then s.changeMode mode else .ok s
    s1.advance 4

/-- CPSID and CPSIE: no effect in user mode (R302). -/
def execCpsFlags (disable m a i f : Bool) (mode : BitVec 5) (s : State) : Host.Outcome State Fault Refusal :=
  finish do
    let s1 := s.maskBits disable (cpsMask a i f)
    let s2 ← if s.privileged then (if m then s1.changeMode mode else .ok s1) else .ok s
    s2.advance 4

/-! ## MRS and MSR -/

/-- MRS from the cpsr (R303). -/
def execMrsCpsr (c : Cond) (rd : RegNum) (s : State) : Host.Outcome State Fault Refusal :=
  finish (s.conditional c do
    unpredictableIf (rd == 15) .mrsPc
    (s.setReg rd (s.cpsr &&& psrValid)).advance 4)

/-- MRS from the spsr (R304). -/
def execMrsSpsr (c : Cond) (rd : RegNum) (s : State) : Host.Outcome State Fault Refusal :=
  finish (s.conditional c do
    unpredictableIf (rd == 15) .mrsPc
    let psr ← s.needSpsr
    (s.setReg rd (psr &&& psrValid)).advance 4)

/-- `bytemask` from the fields f, s, x, c (R305). -/
def byteMask (fields : BitVec 4) : Word :=
  (if fields.getLsbD 0 then 0x000000FF else 0) ||| (if fields.getLsbD 1 then 0x0000FF00 else 0) |||
    (if fields.getLsbD 2 then 0x00FF0000 else 0) ||| (if fields.getLsbD 3 then 0xFF000000 else 0)

/-- The bits that every mode may write: N, Z, C, V, Q, GE, E (R306). -/
def userMask : Word := 0xF80F0200

/-- The bits that only a privileged mode may write: A, I, F, mode (R306). -/
def privMask : Word := 0x000001DF

/-- J and T (R306). -/
def stateMask : Word := 0x01000020

/-- The bits that MSR may write in this mode (R306). -/
def State.writableMask (s : State) : Word := if s.privileged then userMask ||| privMask else userMask

/-- MSR to the cpsr (R306). -/
def execMsrCpsr (c : Cond) (fields : BitVec 4) (op : MsrOperand) (s : State) : Host.Outcome State Fault Refusal :=
  finish (s.conditional c do
    let v ← s.msrOperand op
    let mask := byteMask fields &&& s.writableMask
    unpredictableIf (s.privileged && (v ^^^ s.cpsr) &&& byteMask fields &&& stateMask != 0) .msrState
    unpredictableIf (s.privileged && mask &&& 0x1F != 0 && (Mode.ofBits (modeField v)).isNone) .unlistedMode
    (s.setCpsr (maskWrite s.cpsr v mask)).advance 4)

/-- MSR to the spsr: nothing is checked until an exception return (R307). -/
def execMsrSpsr (c : Cond) (fields : BitVec 4) (op : MsrOperand) (s : State) : Host.Outcome State Fault Refusal :=
  finish (s.conditional c do
    let v ← s.msrOperand op
    match s.spsrIndex? with
    | none => unpredictable .noSpsr
    | some k =>
      let mask := byteMask fields &&& (userMask ||| privMask ||| stateMask)
      ({ s with spsr := s.spsr.set k.val (maskWrite s.spsr[k.val] v mask) } : State).advance 4)

/-! ## SETEND, SWI, BKPT -/

/-- SETEND, allowed in every mode (R309). -/
def execSetend (e : Bool) (s : State) : Host.Outcome State Fault Refusal := finish ((s.setEndian e).advance 4)

/-- SWI: takes the software interrupt; the immediate is ignored (R310). -/
def execSwi (c : Cond) (_imm : BitVec 24) (s : State) : Host.Outcome State Fault Refusal :=
  finish (s.conditional c (raise .softwareInterrupt s))

/-- BKPT: takes the prefetch abort; there is no debug hardware (R311, R692). -/
def execBkpt (_imm : BitVec 16) (s : State) : Host.Outcome State Fault Refusal := finish (raise .prefetchAbort s)

end Sys2Proof.Machine
end

