-- ==== Sys2Proof/Machine/ThumbData.lean ====
section
/-! DEFINITION. The Thumb data-processing instructions (spec/48_thumb_data.md). -/

namespace Sys2Proof.Machine

/-! ## The steps they share (R521) -/

/-- A result to Ld, N and Z of it; C and V unchanged (R534). -/
def State.tLogic (s : State) (ld : LowReg) (r : Word) : Res State := ((s.setLreg ld r).setNZ r).advance 2

/-- A shifted value to Ld, N, Z and the shifter's carry; V unchanged (R522). -/
def State.tShift (s : State) (ld : LowReg) (r : Word × Bool) : Res State :=
  ((s.setLreg ld r.1).setNZC r.1 r.2).advance 2

/-- A sum to Ld and the four flags (R525). -/
def State.tArith (s : State) (ld : LowReg) (r : Word × Bool × Bool) : Res State :=
  ((s.setLreg ld r.1).setNZCV r.1 r.2.1 r.2.2).advance 2

/-- The four flags of a sum, no register (R530). -/
def State.tCompare (s : State) (r : Word × Bool × Bool) : Res State := (s.setNZCV r.1 r.2.1 r.2.2).advance 2

/-- A value to Ld, the cpsr preserved (R563). -/
def State.tMove (s : State) (ld : LowReg) (r : Word) : Res State := (s.setLreg ld r).advance 2

/-- `Ls[7:0]` as a shift amount (R536). -/
def State.tAmount (s : State) (ls : LowReg) : Nat := (s.lreg ls).toNat % 256

/-- A value to any register, for r15 a jump that stays in Thumb state (R560). -/
def State.tWriteHigh (s : State) (rd : RegNum) (r : Word) : Res State :=
  if rd = 15 then s.branchTo r else (s.setReg rd r).advance 2

/-! ## Shifts, adds and moves with immediates -/

/-- LSL by an immediate (R522). -/
def execTLslImm (imm : BitVec 5) (lm ld : LowReg) (s : State) : Host.Outcome State Fault Refusal :=
  finish (s.tShift ld (immShift (s.lreg lm) .lsl imm s.flagC))

/-- LSR by an immediate, 0 means 32 (R523). -/
def execTLsrImm (imm : BitVec 5) (lm ld : LowReg) (s : State) : Host.Outcome State Fault Refusal :=
  finish (s.tShift ld (immShift (s.lreg lm) .lsr imm s.flagC))

/-- ASR by an immediate, 0 means 32 (R524). -/
def execTAsrImm (imm : BitVec 5) (lm ld : LowReg) (s : State) : Host.Outcome State Fault Refusal :=
  finish (s.tShift ld (immShift (s.lreg lm) .asr imm s.flagC))

/-- ADD of three low registers (R525). -/
def execTAddReg (lm ln ld : LowReg) (s : State) : Host.Outcome State Fault Refusal :=
  finish (s.tArith ld (addWithCarry (s.lreg ln) (s.lreg lm) false))

/-- SUB of three low registers (R526). -/
def execTSubReg (lm ln ld : LowReg) (s : State) : Host.Outcome State Fault Refusal :=
  finish (s.tArith ld (addWithCarry (s.lreg ln) (~~~(s.lreg lm)) true))

/-- ADD of a 3-bit immediate (R527). -/
def execTAddImm3 (imm : BitVec 3) (ln ld : LowReg) (s : State) : Host.Outcome State Fault Refusal :=
  finish (s.tArith ld (addWithCarry (s.lreg ln) (imm.setWidth 32) false))

/-- SUB of a 3-bit immediate (R528). -/
def execTSubImm3 (imm : BitVec 3) (ln ld : LowReg) (s : State) : Host.Outcome State Fault Refusal :=
  finish (s.tArith ld (addWithCarry (s.lreg ln) (~~~(imm.setWidth 32)) true))

/-- MOV of an 8-bit immediate (R529). -/
def execTMovImm (ld : LowReg) (imm : BitVec 8) (s : State) : Host.Outcome State Fault Refusal :=
  finish (s.tLogic ld (imm.setWidth 32))

/-- CMP with an 8-bit immediate (R530). -/
def execTCmpImm (ln : LowReg) (imm : BitVec 8) (s : State) : Host.Outcome State Fault Refusal :=
  finish (s.tCompare (addWithCarry (s.lreg ln) (~~~(imm.setWidth 32)) true))

/-- ADD of an 8-bit immediate (R531). -/
def execTAddImm8 (ld : LowReg) (imm : BitVec 8) (s : State) : Host.Outcome State Fault Refusal :=
  finish (s.tArith ld (addWithCarry (s.lreg ld) (imm.setWidth 32) false))

/-- SUB of an 8-bit immediate (R532). -/
def execTSubImm8 (ld : LowReg) (imm : BitVec 8) (s : State) : Host.Outcome State Fault Refusal :=
  finish (s.tArith ld (addWithCarry (s.lreg ld) (~~~(imm.setWidth 32)) true))

/-! ## Two low registers -/

/-- AND (R534). -/
def execTAnd (lm ld : LowReg) (s : State) : Host.Outcome State Fault Refusal :=
  finish (s.tLogic ld (s.lreg ld &&& s.lreg lm))

/-- EOR (R535). -/
def execTEor (lm ld : LowReg) (s : State) : Host.Outcome State Fault Refusal :=
  finish (s.tLogic ld (s.lreg ld ^^^ s.lreg lm))

/-- LSL by a register (R536). -/
def execTLslReg (lm ld : LowReg) (s : State) : Host.Outcome State Fault Refusal :=
  finish (s.tShift ld (shift (s.lreg ld) .lsl (s.tAmount lm) s.flagC))

/-- LSR by a register (R537). -/
def execTLsrReg (lm ld : LowReg) (s : State) : Host.Outcome State Fault Refusal :=
  finish (s.tShift ld (shift (s.lreg ld) .lsr (s.tAmount lm) s.flagC))

/-- ASR by a register (R538). -/
def execTAsrReg (lm ld : LowReg) (s : State) : Host.Outcome State Fault Refusal :=
  finish (s.tShift ld (shift (s.lreg ld) .asr (s.tAmount lm) s.flagC))

/-- ADC (R539). -/
def execTAdc (lm ld : LowReg) (s : State) : Host.Outcome State Fault Refusal :=
  finish (s.tArith ld (addWithCarry (s.lreg ld) (s.lreg lm) s.flagC))

/-- SBC (R540). -/
def execTSbc (lm ld : LowReg) (s : State) : Host.Outcome State Fault Refusal :=
  finish (s.tArith ld (addWithCarry (s.lreg ld) (~~~(s.lreg lm)) s.flagC))

/-- ROR by a register (R541). -/
def execTRor (lm ld : LowReg) (s : State) : Host.Outcome State Fault Refusal :=
  finish (s.tShift ld (shift (s.lreg ld) .ror (s.tAmount lm) s.flagC))

/-- TST: only N and Z (R542). -/
def execTTst (lm ln : LowReg) (s : State) : Host.Outcome State Fault Refusal :=
  finish ((s.setNZ (s.lreg ln &&& s.lreg lm)).advance 2)

/-- NEG (R543). -/
def execTNeg (lm ld : LowReg) (s : State) : Host.Outcome State Fault Refusal :=
  finish (s.tArith ld (addWithCarry (~~~(s.lreg lm)) 0 true))

/-- CMP of two low registers (R544). -/
def execTCmpReg (lm ln : LowReg) (s : State) : Host.Outcome State Fault Refusal :=
  finish (s.tCompare (addWithCarry (s.lreg ln) (~~~(s.lreg lm)) true))

/-- CMN (R545). -/
def execTCmn (lm ln : LowReg) (s : State) : Host.Outcome State Fault Refusal :=
  finish (s.tCompare (addWithCarry (s.lreg ln) (s.lreg lm) false))

/-- ORR (R546). -/
def execTOrr (lm ld : LowReg) (s : State) : Host.Outcome State Fault Refusal :=
  finish (s.tLogic ld (s.lreg ld ||| s.lreg lm))

/-- MUL: C is a free value, V preserved (R547). -/
def execTMul (lm ld : LowReg) (s : State) : Host.Outcome State Fault Refusal :=
  finish do
    unpredictableIf (ld == lm) .multiplyOverlap
    let r := s.lreg lm * s.lreg ld
    (((s.setLreg ld r).drawBit.2).setNZC r s.drawBit.1).advance 2

/-- BIC (R548). -/
def execTBic (lm ld : LowReg) (s : State) : Host.Outcome State Fault Refusal :=
  finish (s.tLogic ld (s.lreg ld &&& ~~~(s.lreg lm)))

/-- MVN (R549). -/
def execTMvn (lm ld : LowReg) (s : State) : Host.Outcome State Fault Refusal :=
  finish (s.tLogic ld (~~~(s.lreg lm)))

/-! ## High registers, pc and sp -/

/-- ADD with a high register (R560). -/
def execTAddHigh (rd rm : RegNum) (s : State) : Host.Outcome State Fault Refusal :=
  finish (s.tWriteHigh rd (s.reg rd + s.reg rm))

/-- CMP with a high register (R562). -/
def execTCmpHigh (rn rm : RegNum) (s : State) : Host.Outcome State Fault Refusal :=
  finish (s.tCompare (addWithCarry (s.reg rn) (~~~(s.reg rm)) true))

/-- CPY (R563). -/
def execTCpy (ld lm : LowReg) (s : State) : Host.Outcome State Fault Refusal :=
  finish (s.tMove ld (s.lreg lm))

/-- MOV with a high register, and the spelling NOP (R557, R561). -/
def execTMovHigh (rd rm : RegNum) (s : State) : Host.Outcome State Fault Refusal :=
  finish (s.tWriteHigh rd (s.reg rm))

/-- `((INSTR + 4) & 0xFFFFFFFC) + 4 * zext_32(imm)` (R564, R605). -/
def State.pcRelative (s : State) (imm : BitVec 8) : Word := wordBase (s.pc + 4) + (imm.setWidth 32 <<< 2)

/-- `x[13] + 4 * zext_32(imm)` (R565, R606). -/
def State.spRelative (s : State) (imm : BitVec 8) : Word := s.reg 13 + (imm.setWidth 32 <<< 2)

/-- ADD of pc and an immediate (R564). -/
def execTAddPc (ld : LowReg) (imm : BitVec 8) (s : State) : Host.Outcome State Fault Refusal :=
  finish (s.tMove ld (s.pcRelative imm))

/-- ADD of sp and an immediate (R565). -/
def execTAddSp (ld : LowReg) (imm : BitVec 8) (s : State) : Host.Outcome State Fault Refusal :=
  finish (s.tMove ld (s.spRelative imm))

/-- ADD to sp (R566). -/
def execTAddSpImm (imm : BitVec 7) (s : State) : Host.Outcome State Fault Refusal :=
  finish ((s.setReg 13 (s.reg 13 + (imm.setWidth 32 <<< 2))).advance 2)

/-- SUB from sp (R567). -/
def execTSubSpImm (imm : BitVec 7) (s : State) : Host.Outcome State Fault Refusal :=
  finish ((s.setReg 13 (s.reg 13 - (imm.setWidth 32 <<< 2))).advance 2)

/-! ## Extends and byte reversals -/

/-- SXTH (R550). -/
def execTSxth (lm ld : LowReg) (s : State) : Host.Outcome State Fault Refusal :=
  finish (s.tMove ld (extendH true (s.lreg lm)))

/-- SXTB (R551). -/
def execTSxtb (lm ld : LowReg) (s : State) : Host.Outcome State Fault Refusal :=
  finish (s.tMove ld (extendB true (s.lreg lm)))

/-- UXTH (R552). -/
def execTUxth (lm ld : LowReg) (s : State) : Host.Outcome State Fault Refusal :=
  finish (s.tMove ld (extendH false (s.lreg lm)))

/-- UXTB (R553). -/
def execTUxtb (lm ld : LowReg) (s : State) : Host.Outcome State Fault Refusal :=
  finish (s.tMove ld (extendB false (s.lreg lm)))

/-- REV (R554). -/
def execTRev (lm ld : LowReg) (s : State) : Host.Outcome State Fault Refusal :=
  finish (s.tMove ld (reverseWord (s.lreg lm)))

/-- REV16 (R555). -/
def execTRev16 (lm ld : LowReg) (s : State) : Host.Outcome State Fault Refusal :=
  finish (s.tMove ld (reverseHalves (s.lreg lm)))

/-- REVSH (R556). -/
def execTRevsh (lm ld : LowReg) (s : State) : Host.Outcome State Fault Refusal :=
  finish (s.tMove ld (reverseSigned (s.lreg lm)))

end Sys2Proof.Machine
end

