-- ==== Sys2Proof/Machine/ThumbMemory.lean ====
section
/-! DEFINITION. The Thumb loads, stores, branches and system instructions (spec/49_thumb_memory_branch.md). -/

namespace Sys2Proof.Machine

/-! ## Single loads and stores (R590) -/

/-- `Ln + scale * imm`. -/
def State.tImmAddress (s : State) (ln : LowReg) (imm : BitVec 5) (shiftBy : Nat) : Word :=
  s.lreg ln + (imm.setWidth 32 <<< shiftBy)

/-- `Ln + Lm`. -/
def State.tRegAddress (s : State) (ln lm : LowReg) : Word := s.lreg ln + s.lreg lm

/-- LDR from an address. -/
def State.tLoadWord (s : State) (ld : LowReg) (a : Word) : Res State := do
  let v ← s.loadWord a s.privileged
  s.tMove ld v

/-- LDRH and LDRSH from an address; `ext` extends the half. -/
def State.tLoadHalf (s : State) (ext : Word → Word) (ld : LowReg) (a : Word) : Res State := do
  let v ← s.loadHalf a s.privileged
  s.tMove ld (ext v)

/-- LDRB and LDRSB from an address; `ext` extends the byte. -/
def State.tLoadByte (s : State) (ext : Word → Word) (ld : LowReg) (a : Word) : Res State := do
  let v ← s.loadByte a s.privileged
  s.tMove ld (ext v)

/-- STR to an address. -/
def State.tStoreWord (s : State) (ld : LowReg) (a : Word) : Res State := do
  let s1 ← s.storeWord a (s.lreg ld) s.privileged
  s1.openMonitor.advance 2

/-- STRH to an address. -/
def State.tStoreHalf (s : State) (ld : LowReg) (a : Word) : Res State := do
  let s1 ← s.storeHalf a (s.lreg ld) s.privileged
  s1.openMonitor.advance 2

/-- STRB to an address. -/
def State.tStoreByte (s : State) (ld : LowReg) (a : Word) : Res State := do
  let s1 ← s.storeByte a (s.lreg ld) s.privileged
  s1.openMonitor.advance 2

/-- LDR from the literal pool (R605). -/
def execTLdrPc (ld : LowReg) (imm : BitVec 8) (s : State) : Host.Outcome State Fault Refusal :=
  finish (s.tLoadWord ld (s.pcRelative imm))

/-- STR, register offset (R602). -/
def execTStrReg (lm ln ld : LowReg) (s : State) : Host.Outcome State Fault Refusal :=
  finish (s.tStoreWord ld (s.tRegAddress ln lm))

/-- STRH, register offset (R603). -/
def execTStrhReg (lm ln ld : LowReg) (s : State) : Host.Outcome State Fault Refusal :=
  finish (s.tStoreHalf ld (s.tRegAddress ln lm))

/-- STRB, register offset (R604). -/
def execTStrbReg (lm ln ld : LowReg) (s : State) : Host.Outcome State Fault Refusal :=
  finish (s.tStoreByte ld (s.tRegAddress ln lm))

/-- LDRSB, register offset (R600). -/
def execTLdrsbReg (lm ln ld : LowReg) (s : State) : Host.Outcome State Fault Refusal :=
  finish (s.tLoadByte signByte ld (s.tRegAddress ln lm))

/-- LDR, register offset (R597). -/
def execTLdrReg (lm ln ld : LowReg) (s : State) : Host.Outcome State Fault Refusal :=
  finish (s.tLoadWord ld (s.tRegAddress ln lm))

/-- LDRH, register offset (R598). -/
def execTLdrhReg (lm ln ld : LowReg) (s : State) : Host.Outcome State Fault Refusal :=
  finish (s.tLoadHalf id ld (s.tRegAddress ln lm))

/-- LDRB, register offset (R599). -/
def execTLdrbReg (lm ln ld : LowReg) (s : State) : Host.Outcome State Fault Refusal :=
  finish (s.tLoadByte id ld (s.tRegAddress ln lm))

/-- LDRSH, register offset (R601). -/
def execTLdrshReg (lm ln ld : LowReg) (s : State) : Host.Outcome State Fault Refusal :=
  finish (s.tLoadHalf signHalf ld (s.tRegAddress ln lm))

/-- STR, immediate offset (R592). -/
def execTStrImm (imm : BitVec 5) (ln ld : LowReg) (s : State) : Host.Outcome State Fault Refusal :=
  finish (s.tStoreWord ld (s.tImmAddress ln imm 2))

/-- LDR, immediate offset (R591). -/
def execTLdrImm (imm : BitVec 5) (ln ld : LowReg) (s : State) : Host.Outcome State Fault Refusal :=
  finish (s.tLoadWord ld (s.tImmAddress ln imm 2))

/-- STRB, immediate offset (R594). -/
def execTStrbImm (imm : BitVec 5) (ln ld : LowReg) (s : State) : Host.Outcome State Fault Refusal :=
  finish (s.tStoreByte ld (s.tImmAddress ln imm 0))

/-- LDRB, immediate offset (R593). -/
def execTLdrbImm (imm : BitVec 5) (ln ld : LowReg) (s : State) : Host.Outcome State Fault Refusal :=
  finish (s.tLoadByte id ld (s.tImmAddress ln imm 0))

/-- STRH, immediate offset (R596). -/
def execTStrhImm (imm : BitVec 5) (ln ld : LowReg) (s : State) : Host.Outcome State Fault Refusal :=
  finish (s.tStoreHalf ld (s.tImmAddress ln imm 1))

/-- LDRH, immediate offset (R595). -/
def execTLdrhImm (imm : BitVec 5) (ln ld : LowReg) (s : State) : Host.Outcome State Fault Refusal :=
  finish (s.tLoadHalf id ld (s.tImmAddress ln imm 1))

/-- STR, sp-relative (R607). -/
def execTStrSp (ld : LowReg) (imm : BitVec 8) (s : State) : Host.Outcome State Fault Refusal :=
  finish (s.tStoreWord ld (s.spRelative imm))

/-- LDR, sp-relative (R606). -/
def execTLdrSp (ld : LowReg) (imm : BitVec 8) (s : State) : Host.Outcome State Fault Refusal :=
  finish (s.tLoadWord ld (s.spRelative imm))

/-! ## Multiple loads and stores -/

/-- The list of PUSH and POP: r0 to r7, and lr or pc (R610, R611). -/
def stackList (r : Bool) (extra : BitVec 16) (list : BitVec 8) : BitVec 16 :=
  list.setWidth 16 ||| (if r then extra else 0)

/-- PUSH: STMFD sp! (R610). -/
def execTPush (r : Bool) (list : BitVec 8) (s : State) : Host.Outcome State Fault Refusal :=
  finish do
    let l := stackList r 0x4000 list
    unpredictableIf (l == 0) .emptyList
    let regs := regList l
    let start := blockStart true false (s.reg 13) regs.length
    s.checkBlock start regs.length
    let s1 ← s.writeWords start (regs.map s.reg)
    (s1.openMonitor.setReg 13 start).advance 2

/-- POP: LDMFD sp!, with pc a BX to the loaded address (R611). -/
def execTPop (r : Bool) (list : BitVec 8) (s : State) : Host.Outcome State Fault Refusal :=
  finish do
    let l := stackList r 0x8000 list
    unpredictableIf (l == 0) .emptyList
    let regs := regList l
    let vs ← s.loadBlock false true 13 regs.length
    let s1 := (s.setReg 13 (blockBase true (s.reg 13) regs.length)).setRegs s.mode? regs vs
    if r then s1.loadWritePc (vs.getLastD 0) else s1.advance 2

/-- STMIA: the base stored as a free value unless it is the lowest (R613). -/
def execTStmia (ln : LowReg) (list : BitVec 8) (s : State) : Host.Outcome State Fault Refusal :=
  finish do
    let l : BitVec 16 := list.setWidth 16
    unpredictableIf (l == 0) .emptyList
    let regs := regList l
    let start := s.lreg ln
    s.checkBlock start regs.length
    let draw := baseUnknown true (low ln) regs
    let s0 := if draw then s.drawWord.2 else s
    let s1 ← s0.writeWords start (s.blockValues (low ln) (if draw then some s.drawWord.1 else none) regs)
    (s1.openMonitor.setLreg ln (blockBase true start regs.length)).advance 2

/-- LDMIA: always writes the base back (R612). -/
def execTLdmia (ln : LowReg) (list : BitVec 8) (s : State) : Host.Outcome State Fault Refusal :=
  finish do
    let l : BitVec 16 := list.setWidth 16
    unpredictableIf (l == 0) .emptyList
    let regs := regList l
    unpredictableIf (regs.contains (low ln)) .baseInList
    let vs ← s.loadBlock false true (low ln) regs.length
    ((s.setLreg ln (blockBase true (s.lreg ln) regs.length)).setRegs s.mode? regs vs).advance 2

/-! ## Branches -/

/-- `(INSTR + 2) | 1` (R627). -/
def State.linkThumb (s : State) : State := s.setReg 14 ((s.pc + 2) ||| 1)

/-- `(INSTR + 4) | 1`, the return address of a pair (R631). -/
def State.linkPair (s : State) : State := s.setReg 14 ((s.pc + 4) ||| 1)

/-- To ARM state at an address (R632). -/
def State.toArm (s : State) (a : Word) : State := (s.setCpsr (setBit s.cpsr 5 false)).setPc (wordBase a)

/-- `INSTR + 4 + (sext_32(poff) << 12)` (R631). -/
def State.prefixBase (s : State) (poff : BitVec 11) : Word := s.pc + 4 + (poff.signExtend 32 <<< 12)

/-- B with a condition (R620). -/
def execTBCond (c : Cond) (offset : BitVec 8) (s : State) : Host.Outcome State Fault Refusal :=
  finish (if s.passed c then s.branchTo (s.pc + 4 + (offset.signExtend 32 <<< 1)) else s.advance 2)

/-- B (R621). -/
def execTB (offset : BitVec 11) (s : State) : Host.Outcome State Fault Refusal :=
  finish (s.branchTo (s.pc + 4 + (offset.signExtend 32 <<< 1)))

/-- The undefined instruction (R622). -/
def execTUndefined (_imm : BitVec 8) (s : State) : Host.Outcome State Fault Refusal :=
  finish (raise .undefined s)

/-- BX (R626). -/
def execTBx (rm : RegNum) (s : State) : Host.Outcome State Fault Refusal :=
  finish (s.bxWritePc (s.reg rm))

/-- BLX with a register, which is read before lr is written (R627). -/
def execTBlxReg (rm : RegNum) (s : State) : Host.Outcome State Fault Refusal :=
  finish do
    unpredictableIf (rm == 15) .blxPc
    s.linkThumb.bxWritePc (s.reg rm)

/-- A BL or BLX prefix on its own: the two-step reading of R633 (log 15). -/
def execTBlBlxPrefix (poff : BitVec 11) (s : State) : Host.Outcome State Fault Refusal :=
  finish ((s.setReg 14 (s.prefixBase poff)).advance 2)

/-- A BL suffix on its own (R633; log 15). -/
def execTBlSuffix (offset : BitVec 11) (s : State) : Host.Outcome State Fault Refusal :=
  finish (s.linkThumb.branchTo (s.reg 14 + (offset.setWidth 32 <<< 1)))

/-- A BLX suffix on its own (R633; log 15). -/
def execTBlxSuffix (offset : BitVec 10) (s : State) : Host.Outcome State Fault Refusal :=
  finish (.ok (s.linkThumb.toArm (s.reg 14 + (offset.setWidth 32 <<< 2))))

/-- The BL pair as one instruction (R630, R631). -/
def execTBl (poff offset : BitVec 11) (s : State) : Host.Outcome State Fault Refusal :=
  finish (s.linkPair.branchTo (s.prefixBase poff + (offset.setWidth 32 <<< 1)))

/-- The BLX pair as one instruction (R630, R632). -/
def execTBlx (poff : BitVec 11) (offset : BitVec 10) (s : State) : Host.Outcome State Fault Refusal :=
  finish (.ok (s.linkPair.toArm (s.prefixBase poff + (offset.setWidth 32 <<< 2))))

/-! ## Exceptions and processor state -/

/-- SWI (R640). -/
def execTSwi (_imm : BitVec 8) (s : State) : Host.Outcome State Fault Refusal :=
  finish (raise .softwareInterrupt s)

/-- BKPT (R641). -/
def execTBkpt (_imm : BitVec 8) (s : State) : Host.Outcome State Fault Refusal :=
  finish (raise .prefetchAbort s)

/-- SETEND (R643). -/
def execTSetend (e : Bool) (s : State) : Host.Outcome State Fault Refusal :=
  finish ((s.setEndian e).advance 2)

/-- CPSID and CPSIE: no effect in user mode (R642). -/
def execTCps (disable a i f : Bool) (s : State) : Host.Outcome State Fault Refusal :=
  finish do
    unpredictableIf (!(a || i || f)) .cpsNoFlag
    (if s.privileged then s.maskBits disable (cpsMask a i f) else s).advance 2

end Sys2Proof.Machine
end

