-- ==== Sys2Proof/Machine/Dispatch.lean ====
section
/-! DEFINITION. The dispatch: one arm for each constructor of Instr, each one call of its meaning. -/

namespace Sys2Proof.Machine

/-- The meaning of an instruction in a state. -/
def exec (i : Instr) (s : State) : Host.Outcome State Fault Refusal :=
  match i with
  | .and c sf rn rd op => Sys2Proof.Machine.execAnd c sf rn rd op s
  | .eor c sf rn rd op => Sys2Proof.Machine.execEor c sf rn rd op s
  | .sub c sf rn rd op => Sys2Proof.Machine.execSub c sf rn rd op s
  | .rsb c sf rn rd op => Sys2Proof.Machine.execRsb c sf rn rd op s
  | .add c sf rn rd op => Sys2Proof.Machine.execAdd c sf rn rd op s
  | .adc c sf rn rd op => Sys2Proof.Machine.execAdc c sf rn rd op s
  | .sbc c sf rn rd op => Sys2Proof.Machine.execSbc c sf rn rd op s
  | .rsc c sf rn rd op => Sys2Proof.Machine.execRsc c sf rn rd op s
  | .tst c rn op => Sys2Proof.Machine.execTst c rn op s
  | .teq c rn op => Sys2Proof.Machine.execTeq c rn op s
  | .cmp c rn op => Sys2Proof.Machine.execCmp c rn op s
  | .cmn c rn op => Sys2Proof.Machine.execCmn c rn op s
  | .orr c sf rn rd op => Sys2Proof.Machine.execOrr c sf rn rd op s
  | .mov c sf rd op => Sys2Proof.Machine.execMov c sf rd op s
  | .bic c sf rn rd op => Sys2Proof.Machine.execBic c sf rn rd op s
  | .mvn c sf rd op => Sys2Proof.Machine.execMvn c sf rd op s
  | .mul c sf rd rs rm => Sys2Proof.Machine.execMul c sf rd rs rm s
  | .mla c sf rd rn rs rm => Sys2Proof.Machine.execMla c sf rd rn rs rm s
  | .umaal c rdHi rdLo rs rm => Sys2Proof.Machine.execUmaal c rdHi rdLo rs rm s
  | .umull c sf rdHi rdLo rs rm => Sys2Proof.Machine.execUmull c sf rdHi rdLo rs rm s
  | .umlal c sf rdHi rdLo rs rm => Sys2Proof.Machine.execUmlal c sf rdHi rdLo rs rm s
  | .smull c sf rdHi rdLo rs rm => Sys2Proof.Machine.execSmull c sf rdHi rdLo rs rm s
  | .smlal c sf rdHi rdLo rs rm => Sys2Proof.Machine.execSmlal c sf rdHi rdLo rs rm s
  | .strh c idx u rn rd off => Sys2Proof.Machine.execStrh c idx u rn rd off s
  | .ldrh c idx u rn rd off => Sys2Proof.Machine.execLdrh c idx u rn rd off s
  | .ldrd c idx u rn rd off => Sys2Proof.Machine.execLdrd c idx u rn rd off s
  | .strd c idx u rn rd off => Sys2Proof.Machine.execStrd c idx u rn rd off s
  | .ldrsb c idx u rn rd off => Sys2Proof.Machine.execLdrsb c idx u rn rd off s
  | .ldrsh c idx u rn rd off => Sys2Proof.Machine.execLdrsh c idx u rn rd off s
  | .mrsCpsr c rd => Sys2Proof.Machine.execMrsCpsr c rd s
  | .mrsSpsr c rd => Sys2Proof.Machine.execMrsSpsr c rd s
  | .msrCpsr c fields op => Sys2Proof.Machine.execMsrCpsr c fields op s
  | .msrSpsr c fields op => Sys2Proof.Machine.execMsrSpsr c fields op s
  | .bx c rm => Sys2Proof.Machine.execBx c rm s
  | .bxj c rm => Sys2Proof.Machine.execBxj c rm s
  | .blxReg c rm => Sys2Proof.Machine.execBlxReg c rm s
  | .clz c rd rm => Sys2Proof.Machine.execClz c rd rm s
  | .bkpt imm => Sys2Proof.Machine.execBkpt imm s
  | .qadd c rn rd rm => Sys2Proof.Machine.execQadd c rn rd rm s
  | .qsub c rn rd rm => Sys2Proof.Machine.execQsub c rn rd rm s
  | .qdadd c rn rd rm => Sys2Proof.Machine.execQdadd c rn rd rm s
  | .qdsub c rn rd rm => Sys2Proof.Machine.execQdsub c rn rd rm s
  | .smlaxy c rd rn rs y x rm => Sys2Proof.Machine.execSmlaxy c rd rn rs y x rm s
  | .smlawy c rd rn rs y rm => Sys2Proof.Machine.execSmlawy c rd rn rs y rm s
  | .smulwy c rd rs y rm => Sys2Proof.Machine.execSmulwy c rd rs y rm s
  | .smlalxy c rdHi rdLo rs y x rm => Sys2Proof.Machine.execSmlalxy c rdHi rdLo rs y x rm s
  | .smulxy c rd rs y x rm => Sys2Proof.Machine.execSmulxy c rd rs y x rm s
  | .swp c rn rd rm => Sys2Proof.Machine.execSwp c rn rd rm s
  | .swpb c rn rd rm => Sys2Proof.Machine.execSwpb c rn rd rm s
  | .strex c rn rd rm => Sys2Proof.Machine.execStrex c rn rd rm s
  | .ldrex c rn rd => Sys2Proof.Machine.execLdrex c rn rd s
  | .str c idx u rn rd off => Sys2Proof.Machine.execStr c idx u rn rd off s
  | .strt c u rn rd off => Sys2Proof.Machine.execStrt c u rn rd off s
  | .ldr c idx u rn rd off => Sys2Proof.Machine.execLdr c idx u rn rd off s
  | .ldrt c u rn rd off => Sys2Proof.Machine.execLdrt c u rn rd off s
  | .strb c idx u rn rd off => Sys2Proof.Machine.execStrb c idx u rn rd off s
  | .strbt c u rn rd off => Sys2Proof.Machine.execStrbt c u rn rd off s
  | .ldrb c idx u rn rd off => Sys2Proof.Machine.execLdrb c idx u rn rd off s
  | .ldrbt c u rn rd off => Sys2Proof.Machine.execLdrbt c u rn rd off s
  | .qadd16 c rn rd rm => Sys2Proof.Machine.execQadd16 c rn rd rm s
  | .qaddsubx c rn rd rm => Sys2Proof.Machine.execQaddsubx c rn rd rm s
  | .qsubaddx c rn rd rm => Sys2Proof.Machine.execQsubaddx c rn rd rm s
  | .qsub16 c rn rd rm => Sys2Proof.Machine.execQsub16 c rn rd rm s
  | .qadd8 c rn rd rm => Sys2Proof.Machine.execQadd8 c rn rd rm s
  | .qsub8 c rn rd rm => Sys2Proof.Machine.execQsub8 c rn rd rm s
  | .uqadd16 c rn rd rm => Sys2Proof.Machine.execUqadd16 c rn rd rm s
  | .uqaddsubx c rn rd rm => Sys2Proof.Machine.execUqaddsubx c rn rd rm s
  | .uqsubaddx c rn rd rm => Sys2Proof.Machine.execUqsubaddx c rn rd rm s
  | .uqsub16 c rn rd rm => Sys2Proof.Machine.execUqsub16 c rn rd rm s
  | .uqadd8 c rn rd rm => Sys2Proof.Machine.execUqadd8 c rn rd rm s
  | .uqsub8 c rn rd rm => Sys2Proof.Machine.execUqsub8 c rn rd rm s
  | .sadd16 c rn rd rm => Sys2Proof.Machine.execSadd16 c rn rd rm s
  | .saddsubx c rn rd rm => Sys2Proof.Machine.execSaddsubx c rn rd rm s
  | .ssubaddx c rn rd rm => Sys2Proof.Machine.execSsubaddx c rn rd rm s
  | .ssub16 c rn rd rm => Sys2Proof.Machine.execSsub16 c rn rd rm s
  | .sadd8 c rn rd rm => Sys2Proof.Machine.execSadd8 c rn rd rm s
  | .ssub8 c rn rd rm => Sys2Proof.Machine.execSsub8 c rn rd rm s
  | .uadd16 c rn rd rm => Sys2Proof.Machine.execUadd16 c rn rd rm s
  | .uaddsubx c rn rd rm => Sys2Proof.Machine.execUaddsubx c rn rd rm s
  | .usubaddx c rn rd rm => Sys2Proof.Machine.execUsubaddx c rn rd rm s
  | .usub16 c rn rd rm => Sys2Proof.Machine.execUsub16 c rn rd rm s
  | .uadd8 c rn rd rm => Sys2Proof.Machine.execUadd8 c rn rd rm s
  | .usub8 c rn rd rm => Sys2Proof.Machine.execUsub8 c rn rd rm s
  | .shadd16 c rn rd rm => Sys2Proof.Machine.execShadd16 c rn rd rm s
  | .shaddsubx c rn rd rm => Sys2Proof.Machine.execShaddsubx c rn rd rm s
  | .shsubaddx c rn rd rm => Sys2Proof.Machine.execShsubaddx c rn rd rm s
  | .shsub16 c rn rd rm => Sys2Proof.Machine.execShsub16 c rn rd rm s
  | .shadd8 c rn rd rm => Sys2Proof.Machine.execShadd8 c rn rd rm s
  | .shsub8 c rn rd rm => Sys2Proof.Machine.execShsub8 c rn rd rm s
  | .uhadd16 c rn rd rm => Sys2Proof.Machine.execUhadd16 c rn rd rm s
  | .uhaddsubx c rn rd rm => Sys2Proof.Machine.execUhaddsubx c rn rd rm s
  | .uhsubaddx c rn rd rm => Sys2Proof.Machine.execUhsubaddx c rn rd rm s
  | .uhsub16 c rn rd rm => Sys2Proof.Machine.execUhsub16 c rn rd rm s
  | .uhadd8 c rn rd rm => Sys2Proof.Machine.execUhadd8 c rn rd rm s
  | .uhsub8 c rn rd rm => Sys2Proof.Machine.execUhsub8 c rn rd rm s
  | .pkhbt c rn rd amount rm => Sys2Proof.Machine.execPkhbt c rn rd amount rm s
  | .pkhtb c rn rd amount rm => Sys2Proof.Machine.execPkhtb c rn rd amount rm s
  | .ssat c sat rd amount asr rm => Sys2Proof.Machine.execSsat c sat rd amount asr rm s
  | .usat c sat rd amount asr rm => Sys2Proof.Machine.execUsat c sat rd amount asr rm s
  | .ssat16 c sat rd rm => Sys2Proof.Machine.execSsat16 c sat rd rm s
  | .usat16 c sat rd rm => Sys2Proof.Machine.execUsat16 c sat rd rm s
  | .sel c rn rd rm => Sys2Proof.Machine.execSel c rn rd rm s
  | .rev c rd rm => Sys2Proof.Machine.execRev c rd rm s
  | .rev16 c rd rm => Sys2Proof.Machine.execRev16 c rd rm s
  | .revsh c rd rm => Sys2Proof.Machine.execRevsh c rd rm s
  | .sxtab16 c rn rd rot rm => Sys2Proof.Machine.execSxtab16 c rn rd rot rm s
  | .sxtb16 c rd rot rm => Sys2Proof.Machine.execSxtb16 c rd rot rm s
  | .sxtab c rn rd rot rm => Sys2Proof.Machine.execSxtab c rn rd rot rm s
  | .sxtb c rd rot rm => Sys2Proof.Machine.execSxtb c rd rot rm s
  | .sxtah c rn rd rot rm => Sys2Proof.Machine.execSxtah c rn rd rot rm s
  | .sxth c rd rot rm => Sys2Proof.Machine.execSxth c rd rot rm s
  | .uxtab16 c rn rd rot rm => Sys2Proof.Machine.execUxtab16 c rn rd rot rm s
  | .uxtb16 c rd rot rm => Sys2Proof.Machine.execUxtb16 c rd rot rm s
  | .uxtab c rn rd rot rm => Sys2Proof.Machine.execUxtab c rn rd rot rm s
  | .uxtb c rd rot rm => Sys2Proof.Machine.execUxtb c rd rot rm s
  | .uxtah c rn rd rot rm => Sys2Proof.Machine.execUxtah c rn rd rot rm s
  | .uxth c rd rot rm => Sys2Proof.Machine.execUxth c rd rot rm s
  | .smlad c rd rn rs x rm => Sys2Proof.Machine.execSmlad c rd rn rs x rm s
  | .smuad c rd rs x rm => Sys2Proof.Machine.execSmuad c rd rs x rm s
  | .smlsd c rd rn rs x rm => Sys2Proof.Machine.execSmlsd c rd rn rs x rm s
  | .smusd c rd rs x rm => Sys2Proof.Machine.execSmusd c rd rs x rm s
  | .smlald c rdHi rdLo rs x rm => Sys2Proof.Machine.execSmlald c rdHi rdLo rs x rm s
  | .smlsld c rdHi rdLo rs x rm => Sys2Proof.Machine.execSmlsld c rdHi rdLo rs x rm s
  | .smmla c rd rn rs r rm => Sys2Proof.Machine.execSmmla c rd rn rs r rm s
  | .smmul c rd rs r rm => Sys2Proof.Machine.execSmmul c rd rs r rm s
  | .smmls c rd rn rs r rm => Sys2Proof.Machine.execSmmls c rd rn rs r rm s
  | .usada8 c rd rn rs rm => Sys2Proof.Machine.execUsada8 c rd rn rs rm s
  | .usad8 c rd rs rm => Sys2Proof.Machine.execUsad8 c rd rs rm s
  | .ldm c p u w rn list => Sys2Proof.Machine.execLdm c p u w rn list s
  | .ldmUser c p u w rn list => Sys2Proof.Machine.execLdmUser c p u w rn list s
  | .ldmReturn c p u w rn list => Sys2Proof.Machine.execLdmReturn c p u w rn list s
  | .stm c p u w rn list => Sys2Proof.Machine.execStm c p u w rn list s
  | .stmUser c p u w rn list => Sys2Proof.Machine.execStmUser c p u w rn list s
  | .b c imm => Sys2Proof.Machine.execB c imm s
  | .bl c imm => Sys2Proof.Machine.execBl c imm s
  | .stc c n rn cd cp addr => Sys2Proof.Machine.execStc c n rn cd cp addr s
  | .ldc c n rn cd cp addr => Sys2Proof.Machine.execLdc c n rn cd cp addr s
  | .mcrr c rn rd cp op1 cm => Sys2Proof.Machine.execMcrr c rn rd cp op1 cm s
  | .mrrc c rn rd cp op1 cm => Sys2Proof.Machine.execMrrc c rn rd cp op1 cm s
  | .cdp c op1 cn cd cp op2 cm => Sys2Proof.Machine.execCdp c op1 cn cd cp op2 cm s
  | .mcr c op1 cn rd cp op2 cm => Sys2Proof.Machine.execMcr c op1 cn rd cp op2 cm s
  | .mrc c op1 cn rd cp op2 cm => Sys2Proof.Machine.execMrc c op1 cn rd cp op2 cm s
  | .stc2 n rn cd cp addr => Sys2Proof.Machine.execStc2 n rn cd cp addr s
  | .ldc2 n rn cd cp addr => Sys2Proof.Machine.execLdc2 n rn cd cp addr s
  | .mcrr2 rn rd cp op1 cm => Sys2Proof.Machine.execMcrr2 rn rd cp op1 cm s
  | .mrrc2 rn rd cp op1 cm => Sys2Proof.Machine.execMrrc2 rn rd cp op1 cm s
  | .cdp2 op1 cn cd cp op2 cm => Sys2Proof.Machine.execCdp2 op1 cn cd cp op2 cm s
  | .mcr2 op1 cn rd cp op2 cm => Sys2Proof.Machine.execMcr2 op1 cn rd cp op2 cm s
  | .mrc2 op1 cn rd cp op2 cm => Sys2Proof.Machine.execMrc2 op1 cn rd cp op2 cm s
  | .swi c imm => Sys2Proof.Machine.execSwi c imm s
  | .cpsMode mode => Sys2Proof.Machine.execCpsMode mode s
  | .cpsFlags disable m a iBit f mode => Sys2Proof.Machine.execCpsFlags disable m a iBit f mode s
  | .setend e => Sys2Proof.Machine.execSetend e s
  | .pld u rn off => Sys2Proof.Machine.execPld u rn off s
  | .rfe p u w rn => Sys2Proof.Machine.execRfe p u w rn s
  | .srs p u w mode => Sys2Proof.Machine.execSrs p u w mode s
  | .blxImm h imm => Sys2Proof.Machine.execBlxImm h imm s
  | .tLslImm imm lm ld => Sys2Proof.Machine.execTLslImm imm lm ld s
  | .tLsrImm imm lm ld => Sys2Proof.Machine.execTLsrImm imm lm ld s
  | .tAsrImm imm lm ld => Sys2Proof.Machine.execTAsrImm imm lm ld s
  | .tAddReg lm ln ld => Sys2Proof.Machine.execTAddReg lm ln ld s
  | .tSubReg lm ln ld => Sys2Proof.Machine.execTSubReg lm ln ld s
  | .tAddImm3 imm ln ld => Sys2Proof.Machine.execTAddImm3 imm ln ld s
  | .tSubImm3 imm ln ld => Sys2Proof.Machine.execTSubImm3 imm ln ld s
  | .tMovImm ld imm => Sys2Proof.Machine.execTMovImm ld imm s
  | .tCmpImm ln imm => Sys2Proof.Machine.execTCmpImm ln imm s
  | .tAddImm8 ld imm => Sys2Proof.Machine.execTAddImm8 ld imm s
  | .tSubImm8 ld imm => Sys2Proof.Machine.execTSubImm8 ld imm s
  | .tAnd lm ld => Sys2Proof.Machine.execTAnd lm ld s
  | .tEor lm ld => Sys2Proof.Machine.execTEor lm ld s
  | .tLslReg lm ld => Sys2Proof.Machine.execTLslReg lm ld s
  | .tLsrReg lm ld => Sys2Proof.Machine.execTLsrReg lm ld s
  | .tAsrReg lm ld => Sys2Proof.Machine.execTAsrReg lm ld s
  | .tAdc lm ld => Sys2Proof.Machine.execTAdc lm ld s
  | .tSbc lm ld => Sys2Proof.Machine.execTSbc lm ld s
  | .tRor lm ld => Sys2Proof.Machine.execTRor lm ld s
  | .tTst lm ln => Sys2Proof.Machine.execTTst lm ln s
  | .tNeg lm ld => Sys2Proof.Machine.execTNeg lm ld s
  | .tCmpReg lm ln => Sys2Proof.Machine.execTCmpReg lm ln s
  | .tCmn lm ln => Sys2Proof.Machine.execTCmn lm ln s
  | .tOrr lm ld => Sys2Proof.Machine.execTOrr lm ld s
  | .tMul lm ld => Sys2Proof.Machine.execTMul lm ld s
  | .tBic lm ld => Sys2Proof.Machine.execTBic lm ld s
  | .tMvn lm ld => Sys2Proof.Machine.execTMvn lm ld s
  | .tAddHigh rd rm => Sys2Proof.Machine.execTAddHigh rd rm s
  | .tCmpHigh rn rm => Sys2Proof.Machine.execTCmpHigh rn rm s
  | .tCpy ld lm => Sys2Proof.Machine.execTCpy ld lm s
  | .tMovHigh rd rm => Sys2Proof.Machine.execTMovHigh rd rm s
  | .tBx rm => Sys2Proof.Machine.execTBx rm s
  | .tBlxReg rm => Sys2Proof.Machine.execTBlxReg rm s
  | .tLdrPc ld imm => Sys2Proof.Machine.execTLdrPc ld imm s
  | .tStrReg lm ln ld => Sys2Proof.Machine.execTStrReg lm ln ld s
  | .tStrhReg lm ln ld => Sys2Proof.Machine.execTStrhReg lm ln ld s
  | .tStrbReg lm ln ld => Sys2Proof.Machine.execTStrbReg lm ln ld s
  | .tLdrsbReg lm ln ld => Sys2Proof.Machine.execTLdrsbReg lm ln ld s
  | .tLdrReg lm ln ld => Sys2Proof.Machine.execTLdrReg lm ln ld s
  | .tLdrhReg lm ln ld => Sys2Proof.Machine.execTLdrhReg lm ln ld s
  | .tLdrbReg lm ln ld => Sys2Proof.Machine.execTLdrbReg lm ln ld s
  | .tLdrshReg lm ln ld => Sys2Proof.Machine.execTLdrshReg lm ln ld s
  | .tStrImm imm ln ld => Sys2Proof.Machine.execTStrImm imm ln ld s
  | .tLdrImm imm ln ld => Sys2Proof.Machine.execTLdrImm imm ln ld s
  | .tStrbImm imm ln ld => Sys2Proof.Machine.execTStrbImm imm ln ld s
  | .tLdrbImm imm ln ld => Sys2Proof.Machine.execTLdrbImm imm ln ld s
  | .tStrhImm imm ln ld => Sys2Proof.Machine.execTStrhImm imm ln ld s
  | .tLdrhImm imm ln ld => Sys2Proof.Machine.execTLdrhImm imm ln ld s
  | .tStrSp ld imm => Sys2Proof.Machine.execTStrSp ld imm s
  | .tLdrSp ld imm => Sys2Proof.Machine.execTLdrSp ld imm s
  | .tAddPc ld imm => Sys2Proof.Machine.execTAddPc ld imm s
  | .tAddSp ld imm => Sys2Proof.Machine.execTAddSp ld imm s
  | .tAddSpImm imm => Sys2Proof.Machine.execTAddSpImm imm s
  | .tSubSpImm imm => Sys2Proof.Machine.execTSubSpImm imm s
  | .tSxth lm ld => Sys2Proof.Machine.execTSxth lm ld s
  | .tSxtb lm ld => Sys2Proof.Machine.execTSxtb lm ld s
  | .tUxth lm ld => Sys2Proof.Machine.execTUxth lm ld s
  | .tUxtb lm ld => Sys2Proof.Machine.execTUxtb lm ld s
  | .tRev lm ld => Sys2Proof.Machine.execTRev lm ld s
  | .tRev16 lm ld => Sys2Proof.Machine.execTRev16 lm ld s
  | .tRevsh lm ld => Sys2Proof.Machine.execTRevsh lm ld s
  | .tPush r list => Sys2Proof.Machine.execTPush r list s
  | .tPop r list => Sys2Proof.Machine.execTPop r list s
  | .tSetend e => Sys2Proof.Machine.execTSetend e s
  | .tCps disable a iBit f => Sys2Proof.Machine.execTCps disable a iBit f s
  | .tBkpt imm => Sys2Proof.Machine.execTBkpt imm s
  | .tStmia ln list => Sys2Proof.Machine.execTStmia ln list s
  | .tLdmia ln list => Sys2Proof.Machine.execTLdmia ln list s
  | .tBCond c offset => Sys2Proof.Machine.execTBCond c offset s
  | .tUndefined imm => Sys2Proof.Machine.execTUndefined imm s
  | .tSwi imm => Sys2Proof.Machine.execTSwi imm s
  | .tB offset => Sys2Proof.Machine.execTB offset s
  | .tBlxSuffix offset => Sys2Proof.Machine.execTBlxSuffix offset s
  | .tBlBlxPrefix poff => Sys2Proof.Machine.execTBlBlxPrefix poff s
  | .tBlSuffix offset => Sys2Proof.Machine.execTBlSuffix offset s
  | .tBl poff offset => Sys2Proof.Machine.execTBl poff offset s
  | .tBlx poff offset => Sys2Proof.Machine.execTBlx poff offset s

end Sys2Proof.Machine
end

