-- ==== Sys2Proof/Machine/Step.lean ====
section
/-! DEFINITION. One step: the inputs, the fetch, the decoded instruction (spec/00_scope.md R26; spec/60_exceptions.md
R670, R672; spec/70_reset_and_hazards.md R700). -/

namespace Sys2Proof.Machine

/-- Decoding in the state that `cpsr.T` selects, then the instruction's meaning, or the undefined instruction trap
(R26, R158, R173). -/
def State.run (s : State) (bytes : List Byte) : Host.Outcome State Fault Refusal :=
  match decode s.thumb bytes with
  | .ok (i, _) => exec i s
  | .error e => finish (s.unlisted e)

/-- The instruction at pc: its fetch, which may abort, then `run` (R26, R660). -/
def State.runNext (s : State) : Host.Outcome State Fault Refusal :=
  if s.mode?.isNone then .fault .unlistedMode
  else if s.java then .refused .java
  else match s.fetch with
    | .ok bytes => s.run bytes
    | .error e => finish (.error e)

/-- One step (R26): a reset, an FIQ or an IRQ before the instruction, in the order of R672; otherwise the
instruction. -/
def step (s : State) : Host.Outcome State Fault Refusal :=
  if s.resetPending then .next (takeReset s)
  else if s.fiqPending && !s.fiqMasked then .next (enter .fiq s)
  else if s.irqPending && !s.irqMasked then .next (enter .irq s)
  else s.runNext

/-- The state with an instruction of the opcode table stored where `step` fetches: a row of 32 bits is ARM, a row of 16
bits is Thumb (R174; log 23, log 24). -/
def State.withFetchWord (s : State) (nbits w : Nat) : State :=
  (s.setCpsr (setBit s.cpsr 5 (decide (nbits ≤ 16)))).setBytes s.pc (tableBytes nbits w)

end Sys2Proof.Machine
end

