-- ==== Sys2Proof/Safety.lean ====
section
/-! DEFINITION. The terms that claims use: the invariant of the machine, what an instruction leaves unchanged, and the
data that memory holds. -/

namespace Sys2Proof.Machine

/-! ## The invariant -/

/-- What every step keeps: a listed mode (R45), no Java state (R53), reserved status bits 0 (R50, R61), a pc aligned for
the instruction set (R43), memory in canonical form (log 4). -/
def State.Inv (s : State) : Prop :=
  s.mode?.isSome = true ∧ s.java = false ∧ s.cpsr &&& ~~~psrValid = 0 ∧
  (∀ k : Fin 5, s.spsr[k.val] &&& ~~~psrValid = 0) ∧
  (if s.thumb then s.pc &&& 1 = 0 else s.pc &&& 3 = 0) ∧ s.mem.wf = true

/-- The machine answers a next state. -/
def Goes (o : Host.Outcome State Fault Refusal) : Prop := ∃ t, o = .next t

/-- The machine runs an instruction of condition `c` and the pc can advance by `len` (R16, R24, R91). -/
abbrev State.Ready (s : State) (c : Cond) (len : Nat) : Prop :=
  s.passed c = true ∧ s.pc.toNat + len < 2 ^ 32

/-! ## Frames -/

/-- The state that no ordinary instruction writes: saved status, monitor, coprocessors, configuration, inputs, the
environment. A store, an exception entry and an exception return leave the marks of the monitor and open it: that is the
model's reading of R113 and R655 (log 18), and their frames are said from `s.openMonitor`. -/
structure SameSystem (s t : State) : Prop where
  spsr : t.spsr = s.spsr
  exclOutstanding : t.exclOutstanding = s.exclOutstanding
  exclAddr : t.exclAddr = s.exclAddr
  openOutstanding : t.openOutstanding = s.openOutstanding
  openAddr : t.openAddr = s.openAddr
  cop : t.cop = s.cop
  cp15c1 : t.cp15c1 = s.cp15c1
  hivecs : t.hivecs = s.hivecs
  je : t.je = s.je
  satSetsQ : t.satSetsQ = s.satSetsQ
  irqPending : t.irqPending = s.irqPending
  fiqPending : t.fiqPending = s.fiqPending
  resetPending : t.resetPending = s.resetPending
  aborts : t.aborts = s.aborts
  attrs : t.attrs = s.attrs

/-- Every copy of every register but the current mode's copies of `dests` is as before. -/
def SameRegs (s t : State) (dests : List RegNum) : Prop :=
  ∀ k : Fin 30, (∀ r ∈ dests, bank s.mode? r ≠ some k) → t.regs[k.val] = s.regs[k.val]

/-- Every byte of memory is as before. -/
def SameMemory (s t : State) : Prop := ∀ a : Word, t.byte a = s.byte a

/-- Every byte of memory but the `n` bytes from `a` up is as before. -/
def SameMemoryBut (s t : State) (a : Word) (n : Nat) : Prop :=
  ∀ b : Word, (∀ k < n, b ≠ a + BitVec.ofNat 32 k) → t.byte b = s.byte b

/-- Every status bit but those under `mask` is as before. -/
def SameStatus (s t : State) (mask : Word) : Prop := t.cpsr &&& ~~~mask = s.cpsr &&& ~~~mask

/-- What an instruction that writes no memory leaves: pc at `next`, only `dests` and the status bits of `mask` written. -/
structure Frame (s t : State) (next : Word) (dests : List RegNum) (mask : Word) : Prop where
  pc : t.pc = next
  regs : SameRegs s t dests
  status : SameStatus s t mask
  system : SameSystem s t
  memory : SameMemory s t

/-- As `Frame`, for an instruction that stores the `n` bytes from `a` up. -/
structure StoreFrame (s t : State) (next : Word) (dests : List RegNum) (a : Word) (n : Nat) : Prop where
  pc : t.pc = next
  regs : SameRegs s t dests
  status : t.cpsr = s.cpsr
  system : SameSystem s t
  memory : SameMemoryBut s t a n

/-! ## Flags -/

/-- N, Z, C, V. -/
def State.HasFlags (t : State) (n z c v : Bool) : Prop :=
  t.flagN = n ∧ t.flagZ = z ∧ t.flagC = c ∧ t.flagV = v

/-- The four flags of a status register. -/
def maskNZCV : Word := 0xF0000000
/-- N, Z, C. -/
def maskNZC : Word := 0xE0000000
/-- N, Z. -/
def maskNZ : Word := 0xC0000000
/-- Q. -/
def maskQ : Word := 0x08000000
/-- GE[3:0]. -/
def maskGE : Word := 0x000F0000

/-- A register-shift form that names pc (R18, R240). -/
def shiftNamesPc (op : Operand2) (regs : List RegNum) : Bool :=
  match op with
  | .shiftReg r => r.rs == 15 || r.rm == 15 || regs.contains 15
  | .imm _ | .shiftImm _ => false

/-! ## Data in memory -/

/-- The word that a data access sees at `a` (R92, R93). -/
def State.dataWord (s : State) (a : Word) : Word :=
  if s.bigEndian then s.byte a ++ s.byte (a + 1) ++ s.byte (a + 2) ++ s.byte (a + 3)
  else s.byte (a + 3) ++ s.byte (a + 2) ++ s.byte (a + 1) ++ s.byte a

/-- The halfword that a data access sees at `a` (R92, R93). -/
def State.dataHalf (s : State) (a : Word) : Half :=
  if s.bigEndian then s.byte a ++ s.byte (a + 1) else s.byte (a + 1) ++ s.byte a

/-- The address that a word access at `a` touches (R105, R106). -/
def State.wordAccess (s : State) (a : Word) : Word := if a &&& 3 = 0 ∨ s.uBit = true then a else a &&& 0xFFFFFFFC

/-- The word that LDR delivers from `a`, rotated where the access is unaligned and A = U = 0 (R105). -/
def State.loadedWord (s : State) (a : Word) : Word :=
  if a &&& 3 = 0 ∨ s.uBit = true then s.dataWord a
  else (s.dataWord (a &&& 0xFFFFFFFC)).rotateRight (8 * (a &&& 3).toNat)

end Sys2Proof.Machine
end

