-- ==== Sys2Proof/Certificates/Slice0/Obligations.lean ====
section
/-! DEFINITION. The statements for the provers. Each docstring names the rules of spec/ that it formalises. -/

namespace Sys2Proof.Machine

/-! ## Shapes that the statements share -/

/-- The instruction answers a next state that meets `post`. -/
def Yields (i : Instr) (s : State) (post : State → Prop) : Prop := ∃ t, exec i s = .next t ∧ post t

/-- Only `rd` is written, with `r`, and the pc advances by `len`. -/
def WritesReg (len : Word) (s : State) (rd : RegNum) (r : Word) (t : State) : Prop :=
  t.reg rd = r ∧ Frame s t (s.pc + len) [rd] 0

/-- As the instruction, but stopped by a fault where `bad` holds. -/
def YieldsUnless (bad : Bool) (f : Fault) (i : Instr) (s : State) (post : State → Prop) : Prop :=
  if bad then exec i s = .fault f else Yields i s post

/-- One exception's row of the tables of R652 and R656, and the entry of R655, which leaves the marks of the monitor (and, by
the model's reading of R113, opens it: log 18). -/
def EntersAs (e : Exc) (m : Mode) (offset armLink thumbLink : Word) (setsA setsF : Bool) : Prop :=
  ∀ s : State,
    let t := enter e s
    t.mode? = some m ∧ t.pc = (if s.hivecs then 0xFFFF0000 else 0x00000000) + offset ∧
    t.regIn (some m) 14 = s.pc + (if s.thumb then thumbLink else armLink) ∧
    t.spsr? = some (s.cpsr &&& 0xF90F03FF) ∧
    t.thumb = false ∧ t.java = false ∧ t.irqMasked = true ∧ t.bigEndian = false ∧
    t.fiqMasked = (setsF || s.fiqMasked) ∧ t.cpsr.getLsbD 8 = (setsA || s.cpsr.getLsbD 8) ∧
    t.cpsr &&& 0xF80F0000 = s.cpsr &&& 0xF80F0000 ∧ t.cpsr &&& ~~~psrValid = 0 ∧
    (∀ k : Fin 30, bank (some m) 14 ≠ some k → t.regs[k.val] = s.regs[k.val]) ∧
    (∀ k : Fin 5, m.spsrIndex ≠ some k → t.spsr[k.val] = s.spsr[k.val]) ∧
    SameSystem { s.openMonitor with spsr := t.spsr } t ∧ SameMemory s t

end Sys2Proof.Machine

open Sys2Proof Sys2Proof.Machine

/-! ## The whole machine -/

/-- R75, R700: supervisor mode, ARM state, A, I and F set, E clear, J clear, the pc at the reset vector, A and U of CP15
c1 clear, the monitor clear, reserved bits 0. The values that R75 leaves unspecified are not stated. -/
def Obligations.ResetHasTheStatedValues : Prop :=
  let s := State.reset
  s.mode? = some .svc ∧ s.thumb = false ∧ s.java = false ∧ s.irqMasked = true ∧ s.fiqMasked = true ∧
    s.cpsr.getLsbD 8 = true ∧ s.bigEndian = false ∧ s.pc = 0 ∧ s.aBit = false ∧ s.uBit = false ∧
    s.exclOutstanding = none ∧ s.exclAddr = none ∧ s.cpsr &&& ~~~psrValid = 0

/-- The invariant of Safety.lean holds after reset. -/
def Obligations.ResetMeetsTheInvariant : Prop := State.reset.Inv

/-- R43, R45, R50, R53, R61, R103: every step from a state of the invariant that answers a next state leads to one. -/
def Obligations.EveryStepKeepsTheInvariant : Prop := ∀ s t : State, s.Inv → step s = .next t → t.Inv

/-- R26, R102, R174, R630, R660: with no reset and no enabled interrupt pending, a step at an ARM word, a Thumb halfword or
a BL or BLX pair, little-endian whatever E is, is the instruction it decodes to run at that state; the step adds nothing,
the instruction itself moves the pc. A fetch that aborts enters the prefetch abort. That a BL or BLX prefix with no suffix
after it runs alone, its fetch being that of a pair, is the model's choice (R633; log 15). -/
def Obligations.StepRunsTheDecodedInstruction : Prop :=
  ∀ (s : State) (i : Instr), s.mode?.isSome = true → s.java = false → s.resetPending = false →
    (s.fiqPending = true → s.fiqMasked = true) → (s.irqPending = true → s.irqMasked = true) →
    let b := fun k : Word => s.byte (s.pc + k)
    let aborts := fun (a : Word) (n : Nat) => s.extAbort a n .fetch s.privileged
    (s.thumb = false → s.pc &&& 3 = 0 →
      (aborts s.pc 4 = true → step s = .next (enter .prefetchAbort s)) ∧
      (aborts s.pc 4 = false → decodeArm (b 3 ++ b 2 ++ b 1 ++ b 0) = some i → step s = exec i s)) ∧
    (s.thumb = true → s.pc &&& 1 = 0 →
      (aborts s.pc 2 = true → step s = .next (enter .prefetchAbort s)) ∧
      (aborts s.pc 2 = false → isBlPrefix (b 1 ++ b 0) = false → decodeThumbHalf (b 1 ++ b 0) = some i →
        step s = exec i s) ∧
      (aborts s.pc 2 = false → isBlPrefix (b 1 ++ b 0) = true → crossesTop s.pc 4 = false →
        (aborts (s.pc + 2) 2 = true → step s = .next (enter .prefetchAbort s)) ∧
        (aborts (s.pc + 2) 2 = false → decodeThumbPair (b 1 ++ b 0) (b 3 ++ b 2) = some i → step s = exec i s) ∧
        (aborts (s.pc + 2) 2 = false → decodeThumbPair (b 1 ++ b 0) (b 3 ++ b 2) = none →
          decodeThumbHalf (b 1 ++ b 0) = some i → step s = exec i s)))

/-- R670, R672, R700 to R702: before the instruction a step takes an asserted reset, whatever the masks, then an enabled
FIQ, then an enabled IRQ; a masked input is not taken. The reset leaves what R75 states, and memory a free value (log 13). -/
def Obligations.InputsAreTakenBeforeTheInstruction : Prop :=
  ∀ s : State,
    (s.resetPending = true → ∃ t, step s = .next t ∧
      t.mode? = some .svc ∧ t.thumb = false ∧ t.java = false ∧ t.irqMasked = true ∧ t.fiqMasked = true ∧
      t.cpsr.getLsbD 8 = true ∧ t.bigEndian = false ∧ t.cpsr &&& ~~~psrValid = 0 ∧
      t.pc = (if s.hivecs then 0xFFFF0000 else 0x00000000) ∧ t.aBit = false ∧ t.uBit = false ∧
      t.exclOutstanding = none ∧ t.exclAddr = none ∧ t.mem = Memory.ofCells (Config.freeCells s.freeCount)) ∧
    (s.resetPending = false →
      (s.fiqPending = true → s.fiqMasked = false → step s = .next (enter .fiq s)) ∧
      ((s.fiqPending = true → s.fiqMasked = true) → s.irqPending = true → s.irqMasked = false →
        step s = .next (enter .irq s)) ∧
      ((s.fiqPending = true → s.fiqMasked = true) → (s.irqPending = true → s.irqMasked = true) →
        step s = s.runNext))

/-- R16, R26: the condition table: the sixteen codes, 1111 being no condition, the tests, and that an ARM instruction
whose condition fails only advances the pc. -/
def Obligations.ConditionsFollowTheTable : Prop :=
  (List.range 16).map (fun k => Cond.ofBits (BitVec.ofNat 4 k)) =
    [some .eq, some .ne, some .cs, some .cc, some .mi, some .pl, some .vs, some .vc, some .hi, some .ls, some .ge,
      some .lt, some .gt, some .le, some .al, none] ∧
  (∀ s : State,
    s.passed .eq = s.flagZ ∧ s.passed .ne = (!s.flagZ) ∧ s.passed .cs = s.flagC ∧ s.passed .cc = (!s.flagC) ∧
    s.passed .mi = s.flagN ∧ s.passed .pl = (!s.flagN) ∧ s.passed .vs = s.flagV ∧ s.passed .vc = (!s.flagV) ∧
    (s.passed .hi = true ↔ s.flagC = true ∧ s.flagZ = false) ∧
    (s.passed .ls = true ↔ s.flagC = false ∨ s.flagZ = true) ∧
    (s.passed .ge = true ↔ s.flagN = s.flagV) ∧ (s.passed .lt = true ↔ s.flagN ≠ s.flagV) ∧
    (s.passed .gt = true ↔ s.flagN = s.flagV ∧ s.flagZ = false) ∧
    (s.passed .le = true ↔ s.flagN ≠ s.flagV ∨ s.flagZ = true) ∧ s.passed .al = true) ∧
  ∀ (i : Instr) (w : Word) (c : Cond) (s : State), i.code = .arm w → Cond.ofBits (w.extractLsb' 28 4) = some c →
    s.passed c = false → s.pc.toNat + 4 < 2 ^ 32 → exec i s = .next { s with pc := s.pc + 4 }

/-- R158, R173, R658: a fetched word or halfword that matches no row takes the undefined instruction trap; an ARM word
whose condition fails only advances the pc. -/
def Obligations.UnlistedEncodingsTrap : Prop :=
  ∀ (s : State) (w : Word) (h : Half),
    (s.thumb = false → decodeArm w = none →
      s.run (wordBytes w) =
        match Cond.ofBits (w.extractLsb' 28 4) with
        | none => .next (enter .undefined s)
        | some c =>
          if s.passed c then .next (enter .undefined s)
          else if 2 ^ 32 ≤ s.pc.toNat + 4 then .fault .addressWrap else .next { s with pc := s.pc + 4 }) ∧
    (s.thumb = true → decodeThumbHalf h = none → s.run (halfBytes h) = .next (enter .undefined s))

/-- R681, R306, R301, R302, R47, R683: an instruction that completes in user mode either leaves
the mode, the masks A, I and F, every spsr, the banked registers of the other modes and CP15 c1 as they were, or is the
entry of an exception into its own mode, which writes only that mode's lr and spsr. -/
def Obligations.UserModeIsConfined : Prop :=
  ∀ (i : Instr) (s t : State), s.mode? = some .usr → exec i s = .next t →
    (t.mode? = some .usr ∧ t.cpsr &&& 0x1DF = s.cpsr &&& 0x1DF ∧ t.spsr = s.spsr ∧ t.cp15c1 = s.cp15c1 ∧
      ∀ k : Fin 30, 15 ≤ k.val → t.regs[k.val] = s.regs[k.val]) ∨
    ∃ e u, e ∈ [Exc.undefined, .softwareInterrupt, .prefetchAbort, .dataAbort] ∧ t = enter e u ∧
      u.mode? = some .usr ∧ u.cpsr = s.cpsr ∧ u.spsr = s.spsr ∧ u.regs = s.regs ∧ u.cp15c1 = s.cp15c1

/-! ## Encoding -/

/-- R130 to R172: decoding the encoding of a well-formed instruction gives it back, with nothing left over. -/
def Obligations.DecodeUndoesEncode : Prop :=
  ∀ i : Instr, i.WellFormed → decode i.isThumb (encode i) = .ok (i, [])

/-- R158, R159: a decoded instruction is well formed, and its encoding is the word it was read from. -/
def Obligations.DecodedWordsAreWellFormed : Prop :=
  (∀ (w : Word) (i : Instr), decodeArm w = some i → i.WellFormed ∧ i.code = .arm w) ∧
  (∀ (h : Half) (i : Instr), decodeThumbHalf h = some i → i.WellFormed ∧ i.code = .thumb h)

/-- R130 to R172: eight words of the worked examples and the test vectors decode to their instructions. -/
def Obligations.ExampleWordsDecode : Prop :=
  decodeArm 0xE2810004 = some (.add .al false 1 0 (.imm ⟨0, 4⟩)) ∧
  decodeArm 0xE5B10004 = some (.ldr .al .pre true 1 0 (.imm 4)) ∧
  decodeArm 0xEA00003E = some (.b .al 0x00003E) ∧
  decodeArm 0xE0000291 = some (.mul .al false 0 2 1) ∧
  decodeArm 0xEE010F10 = some (.mcr .al 0 1 0 15 0 0) ∧
  decodeThumbHalf 0x4008 = some (.tAnd 1 0) ∧
  decodeThumbHalf 0xB510 = some (.tPush true 0x10) ∧
  decodeThumbPair 0xF000 0xE802 = some (.tBlx 0 1)

/-! ## Registers, memory, exceptions -/

/-- R21, R44 to R48: the modes and the banks. The seven numbers of Table B.3 are the modes and no other number is one; every
mode but user is privileged; every mode but user and system has an spsr, and no two modes share one. FIQ has its own r8
to r14, the other exception modes their own r13 and r14; all else is the copy of user mode, which system mode shares; two
modes' private copies are different places. A register written in one mode reads back in every mode that shares the copy,
and no other register changes. -/
def Obligations.RegistersAreBanked : Prop :=
  (∀ (b : BitVec 5) (m : Mode), Mode.ofBits b = some m ↔
    (b.toNat, m) ∈ [(0x10, Mode.usr), (0x11, .fiq), (0x12, .irq), (0x13, .svc), (0x17, .abt), (0x1B, .und), (0x1F, .sys)]) ∧
  (∀ s : State, s.mode? = Mode.ofBits (s.cpsr.extractLsb' 0 5)) ∧
  (∀ (s : State) (m : Mode), s.mode? = some m → (s.privileged = true ↔ m ≠ .usr) ∧ s.spsrIndex? = m.spsrIndex ∧
    s.spsr? = m.spsrIndex.map fun k => s.spsr[k.val]) ∧
  (∀ m : Mode, m.spsrIndex = none ↔ m = .usr ∨ m = .sys) ∧
  (∀ (m n : Mode) (k : Fin 5), m.spsrIndex = some k → n.spsrIndex = some k → m = n) ∧
  (∀ (m : Mode) (i : RegNum), i.val < 8 → bank (some m) i = bank (some .usr) i) ∧
  (∀ (m : Mode) (i : RegNum), m ≠ .fiq → i.val < 13 → bank (some m) i = bank (some .usr) i) ∧
  (∀ i : RegNum, bank (some .sys) i = bank (some .usr) i) ∧
  (∀ i j : RegNum, 8 ≤ i.val → i.val < 15 → bank (some .fiq) i ≠ bank (some .usr) j) ∧
  (∀ (m n : Mode) (i j : RegNum), m ∉ [Mode.usr, .sys] → m ≠ n → i ∈ [(13 : RegNum), 14] → j.val < 15 →
    bank (some m) i ≠ bank (some n) j) ∧
  (∀ (m : Mode) (i j : RegNum), bank (some m) i = bank (some m) j → i = j) ∧
  (∀ (s : State) (m n : Option Mode) (i j : RegNum) (v : Word), i ≠ 15 → j ≠ 15 →
    (s.setRegIn m i v).regIn n j = if bank n j = bank m i then v else s.regIn n j)

/-- R91, R92, R93, R94, R96: a read of 1, 2 or 4 bytes is a data abort where the memory system aborts it; otherwise byte `i` of
memory is byte `i` of the value when E is clear and byte `n - 1 - i` when E is set, and the value has no more bytes. A
write stores its bytes in the same places and changes nothing else. That an access across the top of memory stops is R91
(log 21); what a store does to the exclusive monitor is its instruction's, not the write's (log 18). -/
def Obligations.AccessesPackBytesByEndianness : Prop :=
  ∀ (s : State) (a v : Word) (n : Nat) (priv : Bool), n ∈ [1, 2, 4] →
    let place := fun i => 8 * (if s.bigEndian then n - 1 - i else i)
    (crossesTop a n = true → s.memRead a n priv = .error (.fault .addressWrap) ∧
      s.memWrite a n v priv = .error (.fault .addressWrap)) ∧
    (crossesTop a n = false →
      (s.extAbort a n .read priv = true → s.memRead a n priv = .error (.raise .dataAbort s)) ∧
      (s.extAbort a n .read priv = false → ∃ r, s.memRead a n priv = .ok r ∧ r.toNat < 2 ^ (8 * n) ∧
        ∀ i < n, r.extractLsb' (place i) 8 = s.byte (a + BitVec.ofNat 32 i)) ∧
      (s.extAbort a n .write priv = true → s.memWrite a n v priv = .error (.raise .dataAbort s)) ∧
      (s.extAbort a n .write priv = false → ∃ t, s.memWrite a n v priv = .ok t ∧
        (∀ i < n, t.byte (a + BitVec.ofNat 32 i) = v.extractLsb' (place i) 8) ∧
        SameMemoryBut s t a n ∧ t = { s with mem := t.mem }))

/-- R105, R106, R661: an aligned word or halfword access is made at its address. With A set an unaligned one is a data
abort, whatever U; with only U set it is made at the address itself; with both clear a word access goes to the word that
contains the address, a load rotated, a store not, and a halfword access is UNPREDICTABLE. -/
def Obligations.UnalignedAccessesFollowAAndU : Prop :=
  ∀ (s : State) (a v : Word) (priv : Bool),
    let base := a &&& 0xFFFFFFFC
    (a &&& 3 = 0 ∨ (s.aBit = false ∧ s.uBit = true) →
      s.loadWord a priv = s.memRead a 4 priv ∧ s.storeWord a v priv = s.memWrite a 4 v priv) ∧
    (a &&& 1 = 0 ∨ (s.aBit = false ∧ s.uBit = true) →
      s.loadHalf a priv = s.memRead a 2 priv ∧ s.storeHalf a v priv = s.memWrite a 2 v priv) ∧
    (a &&& 3 ≠ 0 → s.aBit = true → s.loadWord a priv = .error (.raise .dataAbort s) ∧
      s.storeWord a v priv = .error (.raise .dataAbort s)) ∧
    (a &&& 1 ≠ 0 → s.aBit = true → s.loadHalf a priv = .error (.raise .dataAbort s) ∧
      s.storeHalf a v priv = .error (.raise .dataAbort s)) ∧
    (a &&& 3 ≠ 0 → s.aBit = false → s.uBit = false →
      (∀ w, s.memRead base 4 priv = .ok w → s.loadWord a priv = .ok (w.rotateRight (8 * (a.toNat % 4)))) ∧
      (∀ e, s.memRead base 4 priv = .error e → s.loadWord a priv = .error e) ∧
      s.storeWord a v priv = s.memWrite base 4 v priv) ∧
    (a &&& 1 ≠ 0 → s.aBit = false → s.uBit = false →
      s.loadHalf a priv = .error (.fault .unalignedUnpredictable) ∧
      s.storeHalf a v priv = .error (.fault .unalignedUnpredictable))

/-- R652, R655, R656: what each exception saves, what it sets, where it goes, and that it leaves the rest. The marks of the
monitor are as before and open (R113; log 18). -/
def Obligations.ExceptionEntrySavesAndJumps : Prop :=
  EntersAs .undefined .und 0x04 4 2 false false ∧ EntersAs .softwareInterrupt .svc 0x08 4 2 false false ∧
  EntersAs .prefetchAbort .abt 0x0C 4 4 true false ∧ EntersAs .dataAbort .abt 0x10 8 8 true false ∧
  EntersAs .irq .irq 0x18 4 4 true false ∧ EntersAs .fiq .fiq 0x1C 4 4 true true

/-- R675, R656: from a state of the invariant, SWI then `MOVS pc, lr` resumes after the SWI, and an IRQ entry then
`SUBS pc, lr, #4` resumes at the interrupted instruction, each with the cpsr, every register of the interrupted mode and
memory as they were. -/
def Obligations.ReturnUndoesEntry : Prop :=
  ∀ s : State, s.Inv →
    (s.thumb = false →
      ∃ t, exec (.mov .al true 15 (.shiftImm ⟨0, .lsl, 14⟩)) (enter .softwareInterrupt s) = .next t ∧
        t.cpsr = s.cpsr ∧ t.pc = s.pc + 4 ∧ SameMemory s t ∧
        ∀ i : RegNum, s.mode? ≠ some .svc → i ≠ 15 → t.reg i = s.reg i) ∧
    (∃ t, exec (.sub .al true 14 15 (.imm ⟨0, 4⟩)) (enter .irq s) = .next t ∧
        t.cpsr = s.cpsr ∧ t.pc = s.pc ∧ SameMemory s t ∧
        ∀ i : RegNum, s.mode? ≠ some .irq → i ≠ 15 → t.reg i = s.reg i)

/-- R310, R311, R640, R641, R622, R659, R660, R658: the instructions whose effect is an exception, in ARM and Thumb
state. -/
def Obligations.TrapInstructionsTakeTheirException : Prop :=
  ∀ (s : State) (c : Cond) (imm24 : BitVec 24) (imm16 : BitVec 16) (imm8 : BitVec 8),
    (s.passed c = true → exec (.swi c imm24) s = .next (enter .softwareInterrupt s)) ∧
    exec (.bkpt imm16) s = .next (enter .prefetchAbort s) ∧
    exec (.tSwi imm8) s = .next (enter .softwareInterrupt s) ∧
    exec (.tBkpt imm8) s = .next (enter .prefetchAbort s) ∧
    exec (.tUndefined imm8) s = .next (enter .undefined s)

/-! ## ARM data processing -/

namespace Sys2Proof.Machine

/-- The result and, with S, the flags of a data-processing instruction whose Rd is not pc: N and Z of the result, `flags`
for C and V; V is not in the mask of a logical operation. -/
def DpYields (i : Instr) (s : State) (sf : Bool) (rd : RegNum) (op : Operand2) (regs : List RegNum) (mask : Word)
    (r : Word) (flags : State → Prop) : Prop :=
  YieldsUnless (shiftNamesPc op regs) .registerShiftPc i s fun t =>
    t.reg rd = r ∧ Frame s t (s.pc + 4) [rd] (if sf then mask else 0) ∧
    (sf = true → t.flagN = r.msb ∧ t.flagZ = (r == 0) ∧ flags t)

/-- The flags of a compare or test: no register is written. -/
def TestYields (i : Instr) (s : State) (op : Operand2) (rn : RegNum) (mask : Word) (r : Word) (flags : State → Prop) :
    Prop :=
  YieldsUnless (shiftNamesPc op [rn]) .registerShiftPc i s fun t =>
    Frame s t (s.pc + 4) [] mask ∧ t.flagN = r.msb ∧ t.flagZ = (r == 0) ∧ flags t

/-- C: no borrow of `x - y - b`. -/
def noBorrow (x y : Word) (b : Bool) : Bool := decide (y.toNat + b.toNat ≤ x.toNat)

/-- V: the signed result is not the exact one. -/
def overflowed (r : Word) (exact : Int) : Bool := decide (r.toInt ≠ exact)

/-- A bit as a word. -/
def bitWord (b : Bool) : Word := if b then 1 else 0

end Sys2Proof.Machine

/-- R13, R17, R18, R139, R220, R321: every row of the shifter table, as arithmetic on the value: LSL multiplies,
LSR and ASR divide rounding down, ROR rotates; the carry is the last bit shifted out; amount 0 changes nothing; RRX takes the carry in at the top. An
immediate amount 0 means LSL #0, LSR #32, ASR #32 and RRX; a rotated immediate is the byte rotated right by twice the
field, its carry the old one for field 0 and bit 31 otherwise; a register amount is the low byte of the register. The
second operand of data processing, the operand of MSR and the offsets of the single transfers are these, of the registers
and the C flag they name; an immediate offset is zero-extended and a halfword's register offset takes no shift. -/
def Obligations.ShifterFollowsTheTable : Prop :=
  (∀ (s : State) (r : ShiftByReg) (i : ShiftByImm) (n : RotatedImm) (rm : RegNum) (i12 : BitVec 12) (i8 : BitVec 8),
    let shifted := immShift (s.reg i.rm) i.ty i.amount s.flagC
    s.operand2 (.imm n) = rotImm n s.flagC ∧ s.operand2 (.shiftImm i) = shifted ∧
    s.operand2 (.shiftReg r) = shift (s.reg r.rm) r.ty ((s.reg r.rs).extractLsb' 0 8).toNat s.flagC ∧
    s.msrOperand (.imm n) = .ok (rotImm n s.flagC).1 ∧ (rm ≠ 15 → s.msrOperand (.reg rm) = .ok (s.reg rm)) ∧
    s.wordOffset (.imm i12) = BitVec.ofNat 32 i12.toNat ∧ s.wordOffset (.reg i) = shifted.1 ∧
    s.halfOffset (.imm i8) = BitVec.ofNat 32 i8.toNat ∧ s.halfOffset (.reg rm) = s.reg rm) ∧
  (∀ (v : Word) (k : Nat) (c : Bool),
    (∀ ty, shift v ty 0 c = (v, c)) ∧
    (0 < k → shift v .lsl k c = (BitVec.ofNat 32 (v.toNat * 2 ^ k), (v.toNat * 2 ^ k).testBit 32)) ∧
    (0 < k → shift v .lsr k c = (BitVec.ofNat 32 (v.toNat / 2 ^ k), v.toNat.testBit (k - 1))) ∧
    (0 < k → shift v .asr k c = (BitVec.ofInt 32 (v.toInt / 2 ^ k), decide (v.toInt / 2 ^ (k - 1) % 2 = 1))) ∧
    (0 < k → (shift v .ror k c).2 = (shift v .ror k c).1.msb ∧
      ∀ j, j < 32 → (shift v .ror k c).1.getLsbD j = v.getLsbD ((j + k) % 32)) ∧
    ((rrx v c).2 = v.getLsbD 0 ∧ (rrx v c).1.toNat = v.toNat / 2 + (if c then 2 ^ 31 else 0))) ∧
  ∀ (v : Word) (n : BitVec 5) (c : Bool) (op : RotatedImm),
    immShift v .lsl n c = shift v .lsl n.toNat c ∧
    immShift v .lsr n c = shift v .lsr (if n = 0 then 32 else n.toNat) c ∧
    immShift v .asr n c = shift v .asr (if n = 0 then 32 else n.toNat) c ∧
    immShift v .ror n c = (if n = 0 then rrx v c else shift v .ror n.toNat c) ∧
    (∀ j, j < 32 → (rotImm op c).1.getLsbD j =
      (decide ((j + 2 * op.rotate.toNat) % 32 < 8) && op.imm.getLsbD ((j + 2 * op.rotate.toNat) % 32))) ∧
    (rotImm op c).2 = (if op.rotate = 0 then c else (rotImm op c).1.msb)

/-- R224, R225, R228, R231, R229, R230, R240: AND, BIC, EOR, ORR, MOV, MVN with Rd not pc, every operand form. With S: N
and Z of the result, C the shifter's carry, V preserved. -/
def Obligations.LogicalOperationsYield : Prop :=
  ∀ (c : Cond) (sf : Bool) (rn rd : RegNum) (op : Operand2) (s : State), s.Ready c 4 → rd ≠ 15 →
    let a := s.reg rn; let b := (s.operand2 op).1; let carry := fun t : State => t.flagC = (s.operand2 op).2
    DpYields (.and c sf rn rd op) s sf rd op [rn, rd] maskNZC (a &&& b) carry ∧
    DpYields (.bic c sf rn rd op) s sf rd op [rn, rd] maskNZC (a &&& ~~~b) carry ∧
    DpYields (.eor c sf rn rd op) s sf rd op [rn, rd] maskNZC (a ^^^ b) carry ∧
    DpYields (.orr c sf rn rd op) s sf rd op [rn, rd] maskNZC (a ||| b) carry ∧
    DpYields (.mov c sf rd op) s sf rd op [rd] maskNZC b carry ∧
    DpYields (.mvn c sf rd op) s sf rd op [rd] maskNZC (~~~b) carry

/-- R222, R223, R232, R233, R234, R235, R240: ADD, ADC, SUB, SBC, RSB, RSC with Rd not pc, every operand form. With S:
C is the carry of an addition and the absence of a borrow of a subtraction, V the signed overflow. -/
def Obligations.ArithmeticOperationsYield : Prop :=
  ∀ (c : Cond) (sf : Bool) (rn rd : RegNum) (op : Operand2) (s : State), s.Ready c 4 → rd ≠ 15 →
    let a := s.reg rn; let b := (s.operand2 op).1; let cin := s.flagC
    let sum := a + b + bitWord cin; let dif := a - b - bitWord (!cin); let rev := b - a - bitWord (!cin)
    DpYields (.add c sf rn rd op) s sf rd op [rn, rd] maskNZCV (a + b) (fun t =>
      t.flagC = decide (2 ^ 32 ≤ a.toNat + b.toNat) ∧ t.flagV = overflowed (a + b) (a.toInt + b.toInt)) ∧
    DpYields (.adc c sf rn rd op) s sf rd op [rn, rd] maskNZCV sum (fun t =>
      t.flagC = decide (2 ^ 32 ≤ a.toNat + b.toNat + cin.toNat) ∧
      t.flagV = overflowed sum (a.toInt + b.toInt + cin.toNat)) ∧
    DpYields (.sub c sf rn rd op) s sf rd op [rn, rd] maskNZCV (a - b) (fun t =>
      t.flagC = noBorrow a b false ∧ t.flagV = overflowed (a - b) (a.toInt - b.toInt)) ∧
    DpYields (.sbc c sf rn rd op) s sf rd op [rn, rd] maskNZCV dif (fun t =>
      t.flagC = noBorrow a b (!cin) ∧ t.flagV = overflowed dif (a.toInt - b.toInt - (!cin).toNat)) ∧
    DpYields (.rsb c sf rn rd op) s sf rd op [rn, rd] maskNZCV (b - a) (fun t =>
      t.flagC = noBorrow b a false ∧ t.flagV = overflowed (b - a) (b.toInt - a.toInt)) ∧
    DpYields (.rsc c sf rn rd op) s sf rd op [rn, rd] maskNZCV rev (fun t =>
      t.flagC = noBorrow b a (!cin) ∧ t.flagV = overflowed rev (b.toInt - a.toInt - (!cin).toNat))

/-- R226, R227, R236, R237, R240: CMP, CMN, TST, TEQ write only flags; TST and TEQ preserve V. -/
def Obligations.ComparesWriteOnlyFlags : Prop :=
  ∀ (c : Cond) (rn : RegNum) (op : Operand2) (s : State), s.Ready c 4 →
    let a := s.reg rn; let b := (s.operand2 op).1; let carry := fun t : State => t.flagC = (s.operand2 op).2
    TestYields (.cmp c rn op) s op rn maskNZCV (a - b) (fun t =>
      t.flagC = noBorrow a b false ∧ t.flagV = overflowed (a - b) (a.toInt - b.toInt)) ∧
    TestYields (.cmn c rn op) s op rn maskNZCV (a + b) (fun t =>
      t.flagC = decide (2 ^ 32 ≤ a.toNat + b.toNat) ∧ t.flagV = overflowed (a + b) (a.toInt + b.toInt)) ∧
    TestYields (.tst c rn op) s op rn maskNZC (a &&& b) carry ∧
    TestYields (.teq c rn op) s op rn maskNZC (a ^^^ b) carry

namespace Sys2Proof.Machine

/-- What an operation with Rd = pc does with its result `r`: without S a jump in the same instruction set, with S an
exception return, which leaves the marks of the monitor and opens it (R221, R24, R103, R675, R113; log 18). -/
def JumpYields (i : Instr) (s : State) (sf : Bool) (op : Operand2) (r : Word) : Prop :=
  if shiftNamesPc op [15] then exec i s = .fault .registerShiftPc
  else if sf = false then
    if r &&& 3 = 0 then Yields i s fun t => Frame s t r [] 0 else exec i s = .fault .branchUnaligned
  else match s.spsr? with
    | none => exec i s = .fault .noSpsr
    | some psr =>
      let new := psr &&& 0xF90F03FF
      if (Mode.ofBits (new.extractLsb' 0 5)).isNone then exec i s = .fault .returnMode
      else if new.getLsbD 24 then exec i s = .fault .returnJava
      else if new.getLsbD 5 then
        Yields i s fun t => t.cpsr = new ∧ Frame s.openMonitor t (r &&& 0xFFFFFFFE) [] 0xFFFFFFFF
      else if r &&& 3 = 0 then Yields i s fun t => t.cpsr = new ∧ Frame s.openMonitor t r [] 0xFFFFFFFF
      else exec i s = .fault .branchUnaligned

end Sys2Proof.Machine

/-- R221, R240, R675, R682: with Rd = pc the twelve operations that write a register jump, and with S return from an
exception: the cpsr from the spsr and the pc together; UNPREDICTABLE in a mode without an spsr. In ARM state.
The return leaves the marks of the monitor and opens it (R113; log 18). -/
def Obligations.WritingPcJumpsOrReturns : Prop :=
  ∀ (c : Cond) (sf : Bool) (rn : RegNum) (op : Operand2) (s : State), s.passed c = true → s.thumb = false →
    let a := s.reg rn; let b := (s.operand2 op).1; let cin := s.flagC
    JumpYields (.and c sf rn 15 op) s sf op (a &&& b) ∧ JumpYields (.bic c sf rn 15 op) s sf op (a &&& ~~~b) ∧
    JumpYields (.eor c sf rn 15 op) s sf op (a ^^^ b) ∧ JumpYields (.orr c sf rn 15 op) s sf op (a ||| b) ∧
    JumpYields (.mov c sf 15 op) s sf op b ∧ JumpYields (.mvn c sf 15 op) s sf op (~~~b) ∧
    JumpYields (.add c sf rn 15 op) s sf op (a + b) ∧ JumpYields (.sub c sf rn 15 op) s sf op (a - b) ∧
    JumpYields (.rsb c sf rn 15 op) s sf op (b - a) ∧ JumpYields (.adc c sf rn 15 op) s sf op (a + b + bitWord cin) ∧
    JumpYields (.sbc c sf rn 15 op) s sf op (a - b - bitWord (!cin)) ∧
    JumpYields (.rsc c sf rn 15 op) s sf op (b - a - bitWord (!cin))

/-- R238: CLZ gives the number of zeros above the highest one, 32 for 0; pc in a register field is UNPREDICTABLE. -/
def Obligations.ClzCountsLeadingZeros : Prop :=
  ∀ (c : Cond) (rd rm : RegNum) (s : State), s.Ready c 4 →
    YieldsUnless (rd == 15 || rm == 15) .clzPc (.clz c rd rm) s fun t =>
      (s.reg rm = 0 → t.reg rd = 32) ∧
      (s.reg rm ≠ 0 → (t.reg rd).toNat < 32 ∧ 2 ^ (31 - (t.reg rd).toNat) ≤ (s.reg rm).toNat ∧
        (s.reg rm).toNat < 2 ^ (32 - (t.reg rd).toNat)) ∧
      Frame s t (s.pc + 4) [rd] 0

/-! ## ARM multiplies -/

namespace Sys2Proof.Machine

/-- The two stops of a multiply (R391), then its effect. -/
def MulYields (regs : List RegNum) (overlap : Bool) (i : Instr) (s : State) (post : State → Prop) : Prop :=
  if 15 ∈ regs then exec i s = .fault .multiplyPc
  else if overlap then exec i s = .fault .multiplyOverlap
  else Yields i s post

/-- A 64-bit value as RdHi:RdLo. -/
def State.pair (s : State) (rdHi rdLo : RegNum) : BitVec 64 := s.reg rdHi ++ s.reg rdLo

/-- A half of a register, signed. -/
def halfOf (v : Word) (top : Bool) : Int := if top then (v.extractLsb' 16 16).toInt else (v.extractLsb' 0 16).toInt

/-- Rs, its halves exchanged with the X suffix. -/
def swapIf (x : Bool) (v : Word) : Word := if x then v.extractLsb' 0 16 ++ v.extractLsb' 16 16 else v

/-- Only `rd` is written, with the low 32 bits of `exact`; Q is set where they are not `exact`, never cleared
(R414). -/
def WrapsSettingQ (s : State) (rd : RegNum) (exact : Int) (t : State) : Prop :=
  t.reg rd = BitVec.ofInt 32 exact ∧ t.flagQ = (s.flagQ || decide ((t.reg rd).toInt ≠ exact)) ∧
  Frame s t (s.pc + 4) [rd] maskQ

/-- Only RdHi:RdLo is written, with the low 64 bits of `exact`. -/
def WritesLong (s : State) (rdHi rdLo : RegNum) (exact : Int) (t : State) : Prop :=
  t.pair rdHi rdLo = BitVec.ofInt 64 exact ∧ Frame s t (s.pc + 4) [rdHi, rdLo] 0

end Sys2Proof.Machine

/-- R391, R392, R393, R399: MUL and MLA, the low 32 bits; with S, N and Z of them, V preserved, C free. -/
def Obligations.MultipliesYieldTheLowWord : Prop :=
  ∀ (c : Cond) (sf : Bool) (rd rn rs rm : RegNum) (s : State), s.Ready c 4 →
    let post := fun (r : Word) (t : State) =>
      t.reg rd = r ∧ Frame s t (s.pc + 4) [rd] (if sf then maskNZC else 0) ∧
      (sf = true → t.flagN = r.msb ∧ t.flagZ = (r == 0))
    MulYields [rd, rm, rs] (rd == rm) (.mul c sf rd rs rm) s (post (s.reg rm * s.reg rs)) ∧
    MulYields [rd, rm, rs, rn] (rd == rm) (.mla c sf rd rn rs rm) s (post (s.reg rn + s.reg rm * s.reg rs))

/-- R391, R394 to R399: the long multiplies; with S, N and Z of the 64-bit result, C and V free. -/
def Obligations.LongMultipliesYieldThePair : Prop :=
  ∀ (c : Cond) (sf : Bool) (rdHi rdLo rs rm : RegNum) (s : State), s.Ready c 4 →
    let old := s.pair rdHi rdLo
    let uprod : BitVec 64 := (s.reg rm).setWidth 64 * (s.reg rs).setWidth 64
    let sprod : BitVec 64 := (s.reg rm).signExtend 64 * (s.reg rs).signExtend 64
    let post := fun (r : BitVec 64) (t : State) =>
      t.pair rdHi rdLo = r ∧ Frame s t (s.pc + 4) [rdHi, rdLo] (if sf then maskNZCV else 0) ∧
      (sf = true → t.flagN = r.msb ∧ t.flagZ = (r == 0))
    let overlap := rdHi == rdLo || rm == rdHi || rm == rdLo
    MulYields [rdHi, rdLo, rs, rm] overlap (.umull c sf rdHi rdLo rs rm) s (post uprod) ∧
    MulYields [rdHi, rdLo, rs, rm] overlap (.smull c sf rdHi rdLo rs rm) s (post sprod) ∧
    MulYields [rdHi, rdLo, rs, rm] overlap (.umlal c sf rdHi rdLo rs rm) s (post (old + uprod)) ∧
    MulYields [rdHi, rdLo, rs, rm] overlap (.smlal c sf rdHi rdLo rs rm) s (post (old + sprod)) ∧
    MulYields [rdHi, rdLo, rm, rs] (rdHi == rdLo) (.umaal c rdHi rdLo rs rm) s (fun t =>
      (t.pair rdHi rdLo).toNat =
        (s.reg rm).toNat * (s.reg rs).toNat + (s.reg rdLo).toNat + (s.reg rdHi).toNat ∧
      Frame s t (s.pc + 4) [rdHi, rdLo] 0)

/-- R390, R391, R400, R401, R404, R407, R408, R414: the halfword multiplies; the sums wrap and set Q, the products
always fit. -/
def Obligations.HalfwordMultipliesYield : Prop :=
  ∀ (c : Cond) (rd rn rs rm : RegNum) (x y : Bool) (s : State), s.Ready c 4 →
    let prod := halfOf (s.reg rm) x * halfOf (s.reg rs) y
    let wide := (s.reg rm).toInt * halfOf (s.reg rs) y / 2 ^ 16
    MulYields [rd, rn, rs, rm] false (.smlaxy c rd rn rs y x rm) s (WrapsSettingQ s rd ((s.reg rn).toInt + prod)) ∧
    MulYields [rd, rn, rs, rm] false (.smlawy c rd rn rs y rm) s (WrapsSettingQ s rd ((s.reg rn).toInt + wide)) ∧
    MulYields [rd, rs, rm] false (.smulxy c rd rs y x rm) s (fun t =>
      (t.reg rd).toInt = prod ∧ Frame s t (s.pc + 4) [rd] 0) ∧
    MulYields [rd, rs, rm] false (.smulwy c rd rs y rm) s (fun t =>
      (t.reg rd).toInt = wide ∧ Frame s t (s.pc + 4) [rd] 0) ∧
    MulYields [rd, rn, rs, rm] (rd == rn) (.smlalxy c rd rn rs y x rm) s
      (WritesLong s rd rn ((s.pair rd rn).toNat + prod))

/-- R390, R391, R402, R403, R405, R406, R409, R410, R414: the dual multiplies; SMUSD always fits and leaves Q. -/
def Obligations.DualMultipliesYield : Prop :=
  ∀ (c : Cond) (rd rn rs rm : RegNum) (x : Bool) (s : State), s.Ready c 4 →
    let m := s.reg rm; let r := swapIf x (s.reg rs)
    let low := halfOf m false * halfOf r false; let high := halfOf m true * halfOf r true
    MulYields [rd, rn, rs, rm] false (.smlad c rd rn rs x rm) s (WrapsSettingQ s rd ((s.reg rn).toInt + low + high)) ∧
    MulYields [rd, rn, rs, rm] false (.smlsd c rd rn rs x rm) s (WrapsSettingQ s rd ((s.reg rn).toInt + low - high)) ∧
    MulYields [rd, rs, rm] false (.smuad c rd rs x rm) s (WrapsSettingQ s rd (low + high)) ∧
    MulYields [rd, rs, rm] false (.smusd c rd rs x rm) s (fun t =>
      (t.reg rd).toInt = low - high ∧ Frame s t (s.pc + 4) [rd] 0) ∧
    MulYields [rd, rn, rs, rm] (rd == rn) (.smlald c rd rn rs x rm) s
      (WritesLong s rd rn ((s.pair rd rn).toNat + low + high)) ∧
    MulYields [rd, rn, rs, rm] (rd == rn) (.smlsld c rd rn rs x rm) s
      (WritesLong s rd rn ((s.pair rd rn).toNat + low - high))

/-- R391, R411, R412, R413: the most significant word of the product, of the sum and of the difference, rounded with the
R suffix: the exact value divided by 2^32 rounding down, as 32 bits. -/
def Obligations.MostSignificantWordMultipliesYield : Prop :=
  ∀ (c : Cond) (rd rn rs rm : RegNum) (r : Bool) (s : State), s.Ready c 4 →
    let prod := (s.reg rm).toInt * (s.reg rs).toInt; let acc := (s.reg rn).toInt * 2 ^ 32
    let round : Int := if r then 2 ^ 31 else 0
    let post := fun (exact : Int) => WritesReg 4 s rd (BitVec.ofInt 32 ((exact + round) / 2 ^ 32))
    MulYields [rd, rm, rs] false (.smmul c rd rs r rm) s (post prod) ∧
    MulYields [rd, rm, rs, rn] false (.smmla c rd rn rs r rm) s (post (acc + prod)) ∧
    MulYields [rd, rm, rs, rn] false (.smmls c rd rn rs r rm) s (post (acc - prod))

/-! ## ARM media -/

namespace Sys2Proof.Machine

/-- pc in a register field stops a media instruction (R440); otherwise its effect. -/
def MediaYields (regs : List RegNum) (i : Instr) (s : State) (post : State → Prop) : Prop :=
  YieldsUnless (decide (15 ∈ regs)) .mediaPc i s post

/-- The top half. -/
def topHalf (w : Word) : Half := w.extractLsb' 16 16
/-- The bottom half. -/
def lowHalf (w : Word) : Half := w.extractLsb' 0 16
/-- Byte `k`. -/
def byteAt (w : Word) (k : Nat) : Byte := w.extractLsb' (8 * k) 8

/-- A finishing step of a lane of width `w`: whether the lane subtracts, and its two operands (R445). -/
abbrev LaneStep (α : Nat → Type) := (w : Nat) → Bool → BitVec w → BitVec w → α w

/-- The result of an operation whose lanes finish with `f`, the highest lane first (R445). -/
def laneWord (op : LaneOp) (f : LaneStep BitVec) (a b : Word) : Word :=
  let bytes := fun sub => f 8 sub (byteAt a 3) (byteAt b 3) ++ f 8 sub (byteAt a 2) (byteAt b 2) ++
    f 8 sub (byteAt a 1) (byteAt b 1) ++ f 8 sub (byteAt a 0) (byteAt b 0)
  match op with
  | .add16 => f 16 false (topHalf a) (topHalf b) ++ f 16 false (lowHalf a) (lowHalf b)
  | .addsubx => f 16 false (topHalf a) (lowHalf b) ++ f 16 true (lowHalf a) (topHalf b)
  | .subaddx => f 16 true (topHalf a) (lowHalf b) ++ f 16 false (lowHalf a) (topHalf b)
  | .sub16 => f 16 true (topHalf a) (topHalf b) ++ f 16 true (lowHalf a) (lowHalf b)
  | .add8 => bytes false
  | .sub8 => bytes true

/-- One bit for each byte of the result, from a test of the lanes (R459): the four bits of GE. -/
def laneBits (op : LaneOp) (p : LaneStep fun _ => Bool) (a b : Word) : BitVec 4 :=
  let two := fun x y : Bool => BitVec.ofBool x ++ BitVec.ofBool x ++ BitVec.ofBool y ++ BitVec.ofBool y
  let four := fun sub => BitVec.ofBool (p 8 sub (byteAt a 3) (byteAt b 3)) ++
    BitVec.ofBool (p 8 sub (byteAt a 2) (byteAt b 2)) ++ BitVec.ofBool (p 8 sub (byteAt a 1) (byteAt b 1)) ++
    BitVec.ofBool (p 8 sub (byteAt a 0) (byteAt b 0))
  match op with
  | .add16 => two (p 16 false (topHalf a) (topHalf b)) (p 16 false (lowHalf a) (lowHalf b))
  | .addsubx => two (p 16 false (topHalf a) (lowHalf b)) (p 16 true (lowHalf a) (topHalf b))
  | .subaddx => two (p 16 true (topHalf a) (lowHalf b)) (p 16 false (lowHalf a) (topHalf b))
  | .sub16 => two (p 16 true (topHalf a) (topHalf b)) (p 16 true (lowHalf a) (lowHalf b))
  | .add8 => four false
  | .sub8 => four true

/-- The exact sum or difference of a lane. -/
def exactLane (signed : Bool) : LaneStep fun _ => Int := fun _ sub x y =>
  if signed then (if sub then x.toInt - y.toInt else x.toInt + y.toInt)
  else (if sub then (x.toNat : Int) - y.toNat else (x.toNat : Int) + y.toNat)

/-- The nearest value to `x` in a range. -/
def clamp (lo hi x : Int) : Int := if x < lo then lo else if hi < x then hi else x

/-- The least and the greatest value of `n` bits (R20). -/
def leastOf (signed : Bool) (n : Nat) : Int := if signed then -(2 ^ (n - 1)) else 0
/-- The greatest value of `n` bits (R20). -/
def greatestOf (signed : Bool) (n : Nat) : Int := if signed then 2 ^ (n - 1) - 1 else 2 ^ n - 1

/-- Whether an exact value is outside the range of `n` bits. -/
def saturates (signed : Bool) (n : Nat) (x : Int) : Bool :=
  decide (x < leastOf signed n) || decide (greatestOf signed n < x)

/-- A saturated value of `n` bits as `w` bits. -/
def satTo (signed : Bool) (n w : Nat) (x : Int) : BitVec w :=
  BitVec.ofInt w (clamp (leastOf signed n) (greatestOf signed n) x)

/-- The Q and UQ prefixes (R452, R453). -/
def SatLanes (signed : Bool) (op : LaneOp) (rn rd rm : RegNum) (s : State) (i : Instr) : Prop :=
  MediaYields [rn, rd, rm] i s fun t =>
    t.reg rd = laneWord op (fun w sub x y => satTo signed w w (exactLane signed w sub x y)) (s.reg rn) (s.reg rm) ∧
    t.flagQ = (s.flagQ || (s.satSetsQ && laneBits op (fun w sub x y => saturates signed w (exactLane signed w sub x y))
      (s.reg rn) (s.reg rm) != 0)) ∧
    Frame s t (s.pc + 4) [rd] maskQ

/-- The S and U prefixes (R459). -/
def WrapLanes (signed : Bool) (op : LaneOp) (rn rd rm : RegNum) (s : State) (i : Instr) : Prop :=
  MediaYields [rn, rd, rm] i s fun t =>
    t.reg rd = laneWord op (fun _ sub x y => if sub then x - y else x + y) (s.reg rn) (s.reg rm) ∧
    t.ge = laneBits op (fun w sub x y => decide
      ((if signed || sub then 0 else 2 ^ w) ≤ exactLane signed w sub x y)) (s.reg rn) (s.reg rm) ∧
    Frame s t (s.pc + 4) [rd] maskGE

/-- The SH and UH prefixes (R472). -/
def HalfLanes (signed : Bool) (op : LaneOp) (rn rd rm : RegNum) (s : State) (i : Instr) : Prop :=
  MediaYields [rn, rd, rm] i s
    (WritesReg 4 s rd (laneWord op (fun w sub x y => BitVec.ofInt w (exactLane signed w sub x y / 2))
      (s.reg rn) (s.reg rm)))

/-- The saturated 32-bit value to `rd`; Q set where `sat`, never cleared. -/
def WritesSat (s : State) (rd : RegNum) (r : Word) (sat : Bool) (t : State) : Prop :=
  t.reg rd = r ∧ t.flagQ = (s.flagQ || sat) ∧ Frame s t (s.pc + 4) [rd] maskQ

end Sys2Proof.Machine

/-- R446 to R451, R453 to R458 (with R440, R445, R452): every lane saturated, Q set where a lane saturated and the
parameter says so. -/
def Obligations.ParallelSaturatingYield : Prop :=
  ∀ (c : Cond) (rn rd rm : RegNum) (s : State), s.Ready c 4 →
    SatLanes true .add16 rn rd rm s (.qadd16 c rn rd rm) ∧ SatLanes true .addsubx rn rd rm s (.qaddsubx c rn rd rm) ∧
    SatLanes true .subaddx rn rd rm s (.qsubaddx c rn rd rm) ∧ SatLanes true .sub16 rn rd rm s (.qsub16 c rn rd rm) ∧
    SatLanes true .add8 rn rd rm s (.qadd8 c rn rd rm) ∧ SatLanes true .sub8 rn rd rm s (.qsub8 c rn rd rm) ∧
    SatLanes false .add16 rn rd rm s (.uqadd16 c rn rd rm) ∧
    SatLanes false .addsubx rn rd rm s (.uqaddsubx c rn rd rm) ∧
    SatLanes false .subaddx rn rd rm s (.uqsubaddx c rn rd rm) ∧
    SatLanes false .sub16 rn rd rm s (.uqsub16 c rn rd rm) ∧ SatLanes false .add8 rn rd rm s (.uqadd8 c rn rd rm) ∧
    SatLanes false .sub8 rn rd rm s (.uqsub8 c rn rd rm)

/-- R460 to R471 (with R440, R445, R459): every lane wraps, GE holds the comparisons, no other flag changes. -/
def Obligations.ParallelModularYield : Prop :=
  ∀ (c : Cond) (rn rd rm : RegNum) (s : State), s.Ready c 4 →
    WrapLanes true .add16 rn rd rm s (.sadd16 c rn rd rm) ∧
    WrapLanes true .addsubx rn rd rm s (.saddsubx c rn rd rm) ∧
    WrapLanes true .subaddx rn rd rm s (.ssubaddx c rn rd rm) ∧
    WrapLanes true .sub16 rn rd rm s (.ssub16 c rn rd rm) ∧ WrapLanes true .add8 rn rd rm s (.sadd8 c rn rd rm) ∧
    WrapLanes true .sub8 rn rd rm s (.ssub8 c rn rd rm) ∧ WrapLanes false .add16 rn rd rm s (.uadd16 c rn rd rm) ∧
    WrapLanes false .addsubx rn rd rm s (.uaddsubx c rn rd rm) ∧
    WrapLanes false .subaddx rn rd rm s (.usubaddx c rn rd rm) ∧
    WrapLanes false .sub16 rn rd rm s (.usub16 c rn rd rm) ∧ WrapLanes false .add8 rn rd rm s (.uadd8 c rn rd rm) ∧
    WrapLanes false .sub8 rn rd rm s (.usub8 c rn rd rm)

/-- R473 to R484 (with R440, R445, R472): half of every exact lane, rounded down; no flag changes. -/
def Obligations.ParallelHalvingYield : Prop :=
  ∀ (c : Cond) (rn rd rm : RegNum) (s : State), s.Ready c 4 →
    HalfLanes true .add16 rn rd rm s (.shadd16 c rn rd rm) ∧
    HalfLanes true .addsubx rn rd rm s (.shaddsubx c rn rd rm) ∧
    HalfLanes true .subaddx rn rd rm s (.shsubaddx c rn rd rm) ∧
    HalfLanes true .sub16 rn rd rm s (.shsub16 c rn rd rm) ∧ HalfLanes true .add8 rn rd rm s (.shadd8 c rn rd rm) ∧
    HalfLanes true .sub8 rn rd rm s (.shsub8 c rn rd rm) ∧ HalfLanes false .add16 rn rd rm s (.uhadd16 c rn rd rm) ∧
    HalfLanes false .addsubx rn rd rm s (.uhaddsubx c rn rd rm) ∧
    HalfLanes false .subaddx rn rd rm s (.uhsubaddx c rn rd rm) ∧
    HalfLanes false .sub16 rn rd rm s (.uhsub16 c rn rd rm) ∧ HalfLanes false .add8 rn rd rm s (.uhadd8 c rn rd rm) ∧
    HalfLanes false .sub8 rn rd rm s (.uhsub8 c rn rd rm)

/-- R441 to R444 (with R440): the saturating sums and differences; either saturation of the doubling forms sets Q. -/
def Obligations.SaturatingArithmeticYields : Prop :=
  ∀ (c : Cond) (rn rd rm : RegNum) (s : State), s.Ready c 4 →
    let m := (s.reg rm).toInt; let n := (s.reg rn).toInt
    let d := clamp (-(2 ^ 31)) (2 ^ 31 - 1) (2 * n); let dsat := saturates true 32 (2 * n)
    let post := fun (exact : Int) (q : Bool) => WritesSat s rd (satTo true 32 32 exact) (q || saturates true 32 exact)
    MediaYields [rn, rd, rm] (.qadd c rn rd rm) s (post (m + n) false) ∧
    MediaYields [rn, rd, rm] (.qsub c rn rd rm) s (post (m - n) false) ∧
    MediaYields [rn, rd, rm] (.qdadd c rn rd rm) s (post (m + d) dsat) ∧
    MediaYields [rn, rd, rm] (.qdsub c rn rd rm) s (post (m - d) dsat)

/-- R486, R487, R488, R489 (with R440): saturation to a number of bits; LSL drops bits first, ASR #0 means 32, the
shift writes no flag. -/
def Obligations.SaturateInstructionsYield : Prop :=
  ∀ (c : Cond) (n5 : BitVec 5) (n4 : BitVec 4) (rd : RegNum) (k : BitVec 5) (rm : RegNum) (s : State), s.Ready c 4 →
    let v := s.reg rm
    let left := (v <<< k.toNat).toInt; let right := v.toInt / 2 ^ (if k = 0 then 32 else k.toNat)
    let post := fun (signed : Bool) (n : Nat) (x : Int) => WritesSat s rd (satTo signed n 32 x) (saturates signed n x)
    let halves := fun (signed : Bool) (n : Nat) =>
      let h := (topHalf v).toInt; let l := (lowHalf v).toInt
      WritesSat s rd (satTo signed n 16 h ++ satTo signed n 16 l) (saturates signed n h || saturates signed n l)
    MediaYields [rd, rm] (.ssat c n5 rd k false rm) s (post true (n5.toNat + 1) left) ∧
    MediaYields [rd, rm] (.ssat c n5 rd k true rm) s (post true (n5.toNat + 1) right) ∧
    MediaYields [rd, rm] (.usat c n5 rd k false rm) s (post false n5.toNat left) ∧
    MediaYields [rd, rm] (.usat c n5 rd k true rm) s (post false n5.toNat right) ∧
    MediaYields [rd, rm] (.ssat16 c n4 rd rm) s (halves true (n4.toNat + 1)) ∧
    MediaYields [rd, rm] (.usat16 c n4 rd rm) s (halves false n4.toNat)

/-- R491 to R502 (with R440, R490): the extends of a rotated register, and their sums; the 16 forms add half by half. -/
def Obligations.ExtendsYield : Prop :=
  ∀ (c : Cond) (rn rd : RegNum) (rot : BitVec 2) (rm : RegNum) (s : State), s.Ready c 4 →
    let n := s.reg rn; let sh := (s.reg rm).rotateRight (8 * rot.toNat)
    let b0 := byteAt sh 0; let b2 := byteAt sh 2; let h := lowHalf sh
    MediaYields [rd, rm] (.sxtb16 c rd rot rm) s (WritesReg 4 s rd (b2.signExtend 16 ++ b0.signExtend 16)) ∧
    MediaYields [rd, rm] (.sxtb c rd rot rm) s (WritesReg 4 s rd (b0.signExtend 32)) ∧
    MediaYields [rd, rm] (.sxth c rd rot rm) s (WritesReg 4 s rd (h.signExtend 32)) ∧
    MediaYields [rd, rm] (.uxtb16 c rd rot rm) s (WritesReg 4 s rd (b2.setWidth 16 ++ b0.setWidth 16)) ∧
    MediaYields [rd, rm] (.uxtb c rd rot rm) s (WritesReg 4 s rd (b0.setWidth 32)) ∧
    MediaYields [rd, rm] (.uxth c rd rot rm) s (WritesReg 4 s rd (h.setWidth 32)) ∧
    MediaYields [rn, rd, rm] (.sxtab16 c rn rd rot rm) s
      (WritesReg 4 s rd ((topHalf n + b2.signExtend 16) ++ (lowHalf n + b0.signExtend 16))) ∧
    MediaYields [rn, rd, rm] (.sxtab c rn rd rot rm) s (WritesReg 4 s rd (n + b0.signExtend 32)) ∧
    MediaYields [rn, rd, rm] (.sxtah c rn rd rot rm) s (WritesReg 4 s rd (n + h.signExtend 32)) ∧
    MediaYields [rn, rd, rm] (.uxtab16 c rn rd rot rm) s
      (WritesReg 4 s rd ((topHalf n + b2.setWidth 16) ++ (lowHalf n + b0.setWidth 16))) ∧
    MediaYields [rn, rd, rm] (.uxtab c rn rd rot rm) s (WritesReg 4 s rd (n + b0.setWidth 32)) ∧
    MediaYields [rn, rd, rm] (.uxtah c rn rd rot rm) s (WritesReg 4 s rd (n + h.setWidth 32))

/-- R485, R503 to R509 (with R440): select by GE, pack, byte reversal, sum of absolute differences. -/
def Obligations.SelectPackReverseSumYield : Prop :=
  ∀ (c : Cond) (rn rd rs : RegNum) (k : BitVec 5) (rm : RegNum) (s : State), s.Ready c 4 →
    let n := s.reg rn; let m := s.reg rm
    let pick := fun j => byteAt (if s.ge.getLsbD j then n else m) j
    let diff := fun j => ((byteAt m j).toNat - (byteAt (s.reg rs) j).toNat) + ((byteAt (s.reg rs) j).toNat - (byteAt m j).toNat)
    let sad := diff 3 + diff 2 + diff 1 + diff 0
    MediaYields [rn, rd, rm] (.sel c rn rd rm) s (WritesReg 4 s rd (pick 3 ++ pick 2 ++ pick 1 ++ pick 0)) ∧
    MediaYields [rn, rd, rm] (.pkhbt c rn rd k rm) s
      (WritesReg 4 s rd (topHalf (m <<< k.toNat) ++ lowHalf n)) ∧
    MediaYields [rn, rd, rm] (.pkhtb c rn rd k rm) s
      (WritesReg 4 s rd (topHalf n ++ lowHalf (m.sshiftRight (if k = 0 then 32 else k.toNat)))) ∧
    MediaYields [rd, rm] (.rev c rd rm) s
      (WritesReg 4 s rd (byteAt m 0 ++ byteAt m 1 ++ byteAt m 2 ++ byteAt m 3)) ∧
    MediaYields [rd, rm] (.rev16 c rd rm) s
      (WritesReg 4 s rd (byteAt m 2 ++ byteAt m 3 ++ byteAt m 0 ++ byteAt m 1)) ∧
    MediaYields [rd, rm] (.revsh c rd rm) s
      (WritesReg 4 s rd ((byteAt m 0).signExtend 24 ++ byteAt m 1)) ∧
    MediaYields [rd, rs, rm] (.usad8 c rd rs rm) s (WritesReg 4 s rd (BitVec.ofNat 32 sad)) ∧
    MediaYields [rd, rn, rs, rm] (.usada8 c rd rn rs rm) s (WritesReg 4 s rd (n + BitVec.ofNat 32 sad))

/-! ## ARM branches -/

namespace Sys2Proof.Machine

/-- A BX to `a` (R24, R266): bit 0 of the target is the new T, `xx10` is UNPREDICTABLE; `dests` is lr for a link. -/
def ExchangesTo (a : Word) (dests : List RegNum) (i : Instr) (s : State) (post : State → Prop) : Prop :=
  YieldsUnless (decide (a &&& 3 = 2)) .exchangeUnaligned i s fun t =>
    t.thumb = a.getLsbD 0 ∧ Frame s t (a &&& 0xFFFFFFFE) dests 0x20 ∧ post t

end Sys2Proof.Machine

/-- R260 to R266, R268: B, BL, BLX and BX in ARM state at an aligned pc: the target, lr, T, and nothing else; BLX reads
Rm before it writes lr; BXJ is a BX where JE is clear. R268 calls BXJ with JE set outside the spec: that it is refused, and
that JE may be set at all, is the model's choice (DESIGN CHOICE, log 7). -/
def Obligations.ArmBranchesJump : Prop :=
  ∀ (c : Cond) (imm : BitVec 24) (h : Bool) (rm : RegNum) (s : State), s.passed c = true → s.thumb = false →
    s.pc &&& 3 = 0 →
    let target := s.pc + 8 + BitVec.ofInt 32 (4 * imm.toInt); let ret := s.pc + 4
    Yields (.b c imm) s (fun t => Frame s t target [] 0) ∧
    Yields (.bl c imm) s (fun t => t.reg 14 = ret ∧ Frame s t target [14] 0) ∧
    Yields (.blxImm h imm) s (fun t =>
      t.reg 14 = ret ∧ t.thumb = true ∧ Frame s t (target + if h then 2 else 0) [14] 0x20) ∧
    ExchangesTo (s.reg rm) [] (.bx c rm) s (fun _ => True) ∧
    (if rm = 15 then exec (.blxReg c rm) s = .fault .blxPc
      else ExchangesTo (s.reg rm) [14] (.blxReg c rm) s (fun t => t.reg 14 = ret)) ∧
    (if s.je then exec (.bxj c rm) s = .refused .java else ExchangesTo (s.reg rm) [] (.bxj c rm) s (fun _ => True))

/-! ## Status register and system -/

namespace Sys2Proof.Machine

/-- The bytes that the fields c, x, s, f select (R305). -/
def fieldBytes (f : BitVec 4) : Word :=
  let byte := fun b : Bool => if b then 0xFF#8 else 0x00#8
  byte (f.getLsbD 3) ++ byte (f.getLsbD 2) ++ byte (f.getLsbD 1) ++ byte (f.getLsbD 0)

/-- Whether the operand of MSR is pc. -/
def msrNamesPc : MsrOperand → Bool
  | .reg rm => rm == 15
  | .imm _ => false

/-- The operand of MSR (R305). -/
def State.msrValue (s : State) : MsrOperand → Word
  | .reg rm => s.reg rm
  | .imm op => (op.imm.setWidth 32 : Word).rotateRight (2 * op.rotate.toNat)

/-- A listed mode number (R45). -/
def listedMode (m : BitVec 5) : Bool :=
  m == 0x10 || m == 0x11 || m == 0x12 || m == 0x13 || m == 0x17 || m == 0x1B || m == 0x1F

/-- The cpsr becomes `w`, nothing else changes but the pc. -/
def BecomesStatus (len : Word) (s : State) (w : Word) (t : State) : Prop :=
  t.cpsr = w ∧ Frame s t (s.pc + len) [] 0xFFFFFFFF

end Sys2Proof.Machine

/-- R303 to R307, R47, R681, R682: MRS reads the cpsr or the spsr with the reserved bits 0; MSR writes the selected bytes.
To the cpsr, user mode writes only N, Z, C, V, Q, GE and E; a privileged mode also A, I, F and the mode, and may change
neither T nor J nor write an unlisted mode. The spsr forms write all but the reserved bits, with no check, and are
UNPREDICTABLE without an spsr. -/
def Obligations.StatusMovesYield : Prop :=
  ∀ (c : Cond) (rd : RegNum) (f : BitVec 4) (op : MsrOperand) (s : State), s.Ready c 4 →
    let v := s.msrValue op; let bytes := fieldBytes f; let i := Instr.msrCpsr c f op
    let written := fun mask : Word => (s.cpsr &&& ~~~mask) ||| (v &&& mask)
    YieldsUnless (rd == 15) .mrsPc (.mrsCpsr c rd) s (WritesReg 4 s rd (s.cpsr &&& 0xF90F03FF)) ∧
    (if rd = 15 then exec (.mrsSpsr c rd) s = .fault .mrsPc
      else match s.spsr? with
        | none => exec (.mrsSpsr c rd) s = .fault .noSpsr
        | some w => Yields (.mrsSpsr c rd) s (WritesReg 4 s rd (w &&& 0xF90F03FF))) ∧
    (if msrNamesPc op then exec (.msrSpsr c f op) s = .fault .msrPc
      else match s.spsrIndex? with
        | none => exec (.msrSpsr c f op) s = .fault .noSpsr
        | some k => Yields (.msrSpsr c f op) s fun t =>
          let mask := bytes &&& 0xF90F03FF
          t.spsr[k.val] = (s.spsr[k.val] &&& ~~~mask) ||| (v &&& mask) ∧
          (∀ j : Fin 5, j ≠ k → t.spsr[j.val] = s.spsr[j.val]) ∧
          Frame { s with spsr := t.spsr } t (s.pc + 4) [] 0) ∧
    (if msrNamesPc op then exec i s = .fault .msrPc
      else if modeField s.cpsr = 0x10 then Yields i s (BecomesStatus 4 s (written (bytes &&& 0xF80F0200)))
      else if (v ^^^ s.cpsr) &&& bytes &&& 0x01000020 ≠ 0 then exec i s = .fault .msrState
      else if f.getLsbD 0 = true ∧ listedMode (v.extractLsb' 0 5) = false then exec i s = .fault .unlistedMode
      else Yields i s (BecomesStatus 4 s (written (bytes &&& 0xF80F03DF))))

/-- R300, R301, R302, R309, R642, R643, R681: CPS writes the mode and the selected masks in a privileged mode and
nothing in user mode; SETEND writes E in every mode. -/
def Obligations.ProcessorStateChangesYield : Prop :=
  ∀ (mode : BitVec 5) (disable m a i f e : Bool) (s : State), s.pc.toNat + 4 < 2 ^ 32 →
    let mask : Word := (if a then 0x100 else 0) ||| (if i then 0x80 else 0) ||| (if f then 0x40 else 0)
    let masked := if disable then s.cpsr ||| mask else s.cpsr &&& ~~~mask
    let moded := fun w : Word => (w &&& 0xFFFFFFE0) ||| mode.setWidth 32
    let cps := Instr.cpsFlags disable m a i f mode; let big : Word := if e then 0x200 else 0
    (if s.privileged = false then Yields (.cpsMode mode) s (BecomesStatus 4 s s.cpsr)
      else if listedMode mode then Yields (.cpsMode mode) s (BecomesStatus 4 s (moded s.cpsr))
      else exec (.cpsMode mode) s = .fault .unlistedMode) ∧
    (if s.privileged = false then Yields cps s (BecomesStatus 4 s s.cpsr)
      else if m = false then Yields cps s (BecomesStatus 4 s masked)
      else if listedMode mode then Yields cps s (BecomesStatus 4 s (moded masked))
      else exec cps s = .fault .unlistedMode) ∧
    (if a = false ∧ i = false ∧ f = false then exec (.tCps disable a i f) s = .fault .cpsNoFlag
      else Yields (.tCps disable a i f) s (BecomesStatus 2 s (if s.privileged then masked else s.cpsr))) ∧
    Yields (.setend e) s (BecomesStatus 4 s ((s.cpsr &&& 0xFFFFFDFF) ||| big)) ∧
    Yields (.tSetend e) s (BecomesStatus 2 s ((s.cpsr &&& 0xFFFFFDFF) ||| big))

/-! ## Coprocessors -/

namespace Sys2Proof.Machine

/-- A coprocessor instruction and what it asks of the coprocessor. -/
structure CpCase where
  instr : Instr
  req : CpReq

/-- The fourteen coprocessor instructions with one set of fields. -/
def cpCases (c : Cond) (n : Bool) (rn rd cp : RegNum) (op1 : BitVec 4) (op1s op2 : BitVec 3) (cm : RegNum)
    (addr : CpAddressing) : List CpCase :=
  let w := op1s.setWidth 4
  [⟨.cdp c op1 rn rd cp op2 cm, { cp := cp, kind := .cdp, two := false, op1 := op1, cn := rn, cd := rd, cm := cm, op2 := op2 }⟩,
   ⟨.cdp2 op1 rn rd cp op2 cm, { cp := cp, kind := .cdp, two := true, op1 := op1, cn := rn, cd := rd, cm := cm, op2 := op2 }⟩,
   ⟨.mcr c op1s rn rd cp op2 cm, { cp := cp, kind := .mcr, two := false, op1 := w, cn := rn, cm := cm, op2 := op2 }⟩,
   ⟨.mcr2 op1s rn rd cp op2 cm, { cp := cp, kind := .mcr, two := true, op1 := w, cn := rn, cm := cm, op2 := op2 }⟩,
   ⟨.mrc c op1s rn rd cp op2 cm, { cp := cp, kind := .mrc, two := false, op1 := w, cn := rn, cm := cm, op2 := op2 }⟩,
   ⟨.mrc2 op1s rn rd cp op2 cm, { cp := cp, kind := .mrc, two := true, op1 := w, cn := rn, cm := cm, op2 := op2 }⟩,
   ⟨.mcrr c rn rd cp op1 cm, { cp := cp, kind := .mcrr, two := false, op1 := op1, cm := cm }⟩,
   ⟨.mcrr2 rn rd cp op1 cm, { cp := cp, kind := .mcrr, two := true, op1 := op1, cm := cm }⟩,
   ⟨.mrrc c rn rd cp op1 cm, { cp := cp, kind := .mrrc, two := false, op1 := op1, cm := cm }⟩,
   ⟨.mrrc2 rn rd cp op1 cm, { cp := cp, kind := .mrrc, two := true, op1 := op1, cm := cm }⟩,
   ⟨.ldc c n rn rd cp addr, { cp := cp, kind := .ldc, two := false, cd := rd, long := n, option := addr.low }⟩,
   ⟨.ldc2 n rn rd cp addr, { cp := cp, kind := .ldc, two := true, cd := rd, long := n, option := addr.low }⟩,
   ⟨.stc c n rn rd cp addr, { cp := cp, kind := .stc, two := false, cd := rd, long := n, option := addr.low }⟩,
   ⟨.stc2 n rn rd cp addr, { cp := cp, kind := .stc, two := true, cd := rd, long := n, option := addr.low }⟩]

/-- Coprocessor `p` has new registers; everything else is as in a frame. -/
def UpdatesCp (s : State) (p : RegNum) (new : CpRegs) (dests : List RegNum) (t : State) : Prop :=
  t.cop = s.cop.set p.val { s.cop[p.val] with regs := new } ∧ Frame { s with cop := t.cop } t (s.pc + 4) dests 0

/-- A present coprocessor other than p15 that accepts the instruction (R280, R281). -/
abbrev State.Accepts (s : State) (p : RegNum) (i : Instr) : Prop :=
  p ≠ 15 ∧ s.cop[p.val].present = true ∧ s.cpAccepts p i = true

/-- The restriction that a coprocessor instruction breaks, if it does (R284, R287, R288, R292). -/
def cpBroken (k : CpKind) (rn rd : RegNum) (addr : CpAddressing) : Option Fault :=
  match k with
  | .cdp | .mrc => none
  | .mcr => if rd = 15 then some .coprocessorRegister else none
  | .mcrr => if rd = 15 ∨ rn = 15 then some .coprocessorRegister else none
  | .mrrc => if rd = 15 ∨ rn = 15 ∨ rd = rn then some .coprocessorRegister else none
  | .ldc | .stc => if cpWritesBack addr ∧ rn = 15 then some .coprocessorBasePc else none

/-- The undefined instruction trap of a coprocessor that is absent or rejects the instruction. Where the instruction breaks
a restriction too, R280's order gives the trap and R663's leaves it UNPREDICTABLE: which holds is open (log 16). -/
def CpTraps (i : Instr) (s : State) : Option Fault → Prop
  | none => exec i s = .next (enter .undefined s)
  | some f => exec i s = if Config.restrictionsFirst i then .fault f else .next (enter .undefined s)

/-- The three operations of p15 that R282 describes: MCR and MRC of c1, and MRC of the main ID. -/
def describedOfP15 (req : CpReq) : Bool :=
  !req.two && req.op1 == 0 && req.cm == 0 && req.op2 == 0 &&
    ((req.kind == .mcr && req.cn == 1) || (req.kind == .mrc && (req.cn == 1 || req.cn == 0)))

end Sys2Proof.Machine

/-- R280, R281, R658, R683: a coprocessor instruction whose coprocessor is absent or rejects it takes the undefined
instruction trap. One that breaks a restriction on its registers too takes it or is UNPREDICTABLE, by the order of the two
tests, which R280 and R663 give differently and the model leaves open (log 16). -/
def Obligations.AbsentCoprocessorsTrap : Prop :=
  ∀ (c : Cond) (n : Bool) (rn rd cp : RegNum) (op1 : BitVec 4) (op1s op2 : BitVec 3) (cm : RegNum)
    (addr : CpAddressing) (s : State), s.passed c = true →
    ∀ x ∈ cpCases c n rn rd cp op1 op1s op2 cm addr,
      s.cop[cp.val].present = false ∨ s.cpAccepts cp x.instr = false →
        CpTraps x.instr s (cpBroken x.req.kind rn rd addr)

/-- R282, R65, R683: the system coprocessor. In a privileged mode MCR writes CP15:c1:c0:0 whole, MRC reads it and the main
ID, a constant of the implementation, each into a register or, for Rd = pc, the flags; every other operation of p15 is
refused (log 9), or UNPREDICTABLE where it breaks a restriction on its registers. In user mode every instruction of p15 is
an undefined instruction; one that breaks a restriction too is that or UNPREDICTABLE (the order is open: log 16). -/
def Obligations.SystemCoprocessorRegisters : Prop :=
  ∀ (c : Cond) (n : Bool) (rn rd : RegNum) (op1 : BitVec 4) (op1s op2 : BitVec 3) (cm : RegNum) (addr : CpAddressing)
    (s : State), s.Ready c 4 → s.cop[15].present = true → s.cop[15].rejects = [] →
    let cases := cpCases c n rn rd 15 op1 op1s op2 cm addr
    let flags := fun (v : Word) (t : State) => t.cpsr &&& 0xF0000000 = v &&& 0xF0000000 ∧ Frame s t (s.pc + 4) [] maskNZCV
    (s.privileged = true → rd ≠ 15 →
      Yields (.mcr c 0 1 rd 15 0 0) s (fun t =>
        t.cp15c1 = s.reg rd ∧ Frame { s with cp15c1 := t.cp15c1 } t (s.pc + 4) [] 0) ∧
      Yields (.mrc c 0 1 rd 15 0 0) s (WritesReg 4 s rd s.cp15c1) ∧
      Yields (.mrc c 0 0 rd 15 0 0) s (WritesReg 4 s rd Config.mainId)) ∧
    (s.privileged = true → exec (.mcr c 0 1 15 15 0 0) s = .fault .coprocessorRegister ∧
      Yields (.mrc c 0 1 15 15 0 0) s (flags s.cp15c1) ∧ Yields (.mrc c 0 0 15 15 0 0) s (flags Config.mainId)) ∧
    (s.privileged = true → ∀ x ∈ cases, describedOfP15 x.req = false →
      exec x.instr s = match cpBroken x.req.kind rn rd addr with
        | some f => .fault f
        | none => .refused .cp15Operation) ∧
    (s.privileged = false → ∀ x ∈ cases, CpTraps x.instr s (cpBroken x.req.kind rn rd addr))

/-- R281, R283, R287, R288, R291, R292: the register transfers and operations of a present coprocessor other than p15
that accepts them, in both forms: what it is given, what it gives back, the stops on pc. What the coprocessor does with
it is the implementation's (log 8). -/
def Obligations.CoprocessorTransfersYield : Prop :=
  ∀ (c : Cond) (rn rd cp : RegNum) (op1 : BitVec 4) (op1s op2 : BitVec 3) (cm : RegNum) (s : State), s.Ready c 4 →
    let w := op1s.setWidth 4; let old := s.cop[cp.val].regs
    ∀ two : Bool,
      let pick := fun a b : Instr => if two then b else a
      let cdp := pick (.cdp c op1 rn rd cp op2 cm) (.cdp2 op1 rn rd cp op2 cm)
      let mcr := pick (.mcr c op1s rn rd cp op2 cm) (.mcr2 op1s rn rd cp op2 cm)
      let mrc := pick (.mrc c op1s rn rd cp op2 cm) (.mrc2 op1s rn rd cp op2 cm)
      let mcrr := pick (.mcrr c rn rd cp op1 cm) (.mcrr2 rn rd cp op1 cm)
      let mrrc := pick (.mrrc c rn rd cp op1 cm) (.mrrc2 rn rd cp op1 cm)
      let cdpReq : CpReq := { cp := cp, kind := .cdp, two := two, op1 := op1, cn := rn, cd := rd, cm := cm, op2 := op2 }
      let mcrReq : CpReq := { cp := cp, kind := .mcr, two := two, op1 := w, cn := rn, cm := cm, op2 := op2 }
      let mrcReq : CpReq := { cp := cp, kind := .mrc, two := two, op1 := w, cn := rn, cm := cm, op2 := op2 }
      let mcrrReq : CpReq := { cp := cp, kind := .mcrr, two := two, op1 := op1, cm := cm }
      let mrrcReq : CpReq := { cp := cp, kind := .mrrc, two := two, op1 := op1, cm := cm }
      (s.Accepts cp cdp → Yields cdp s (UpdatesCp s cp (Config.cpCdp cdpReq old) [])) ∧
      (s.Accepts cp mcr → YieldsUnless (rd == 15) .coprocessorRegister mcr s
        (UpdatesCp s cp (Config.cpMcr mcrReq (s.reg rd) old) [])) ∧
      (s.Accepts cp mrc → Yields mrc s fun t =>
        let v := Config.cpMrc mrcReq old
        if rd = 15 then t.cpsr &&& 0xF0000000 = v.1 &&& 0xF0000000 ∧
          t.cop = s.cop.set cp.val { s.cop[cp.val] with regs := v.2 } ∧
          Frame { s with cop := t.cop } t (s.pc + 4) [] maskNZCV
        else t.reg rd = v.1 ∧ UpdatesCp s cp v.2 [rd] t) ∧
      (s.Accepts cp mcrr → YieldsUnless (rd == 15 || rn == 15) .coprocessorRegister mcrr s
        (UpdatesCp s cp (Config.cpMcrr mcrrReq (s.reg rd) (s.reg rn) old) [])) ∧
      (s.Accepts cp mrrc → YieldsUnless (rd == 15 || rn == 15 || rd == rn) .coprocessorRegister mrrc s fun t =>
        t.reg rd = (Config.cpMrrc mrrcReq old).1 ∧ t.reg rn = (Config.cpMrrc mrrcReq old).2 ∧
        Frame s t (s.pc + 4) [rd, rn] 0)

namespace Sys2Proof.Machine

/-- The base after a coprocessor transfer (R284). -/
def cpNewBase (addr : CpAddressing) (base : Word) : Option Word :=
  match addr with
  | .indexed .offset _ _ | .unindexed _ => none
  | .indexed _ u imm => some (if u then base + 4 * imm.setWidth 32 else base - 4 * imm.setWidth 32)

/-- The first address of a coprocessor transfer (R284). -/
def cpStart (addr : CpAddressing) (base : Word) : Word :=
  match addr with
  | .indexed .post _ _ | .unindexed _ => base
  | .indexed _ u imm => if u then base + 4 * imm.setWidth 32 else base - 4 * imm.setWidth 32

/-- The registers that the words of LDC leave, the first word first (R285). -/
def deliver (req : CpReq) (words : List Word) (old : CpRegs) : CpRegs :=
  (words.zipIdx).foldl (fun r x => Config.cpLdcWord { req with option := 0 } x.2 x.1 r) old

/-- A transfer of words whose access to word `k`, from the aligned address `a` up, aborts: the data abort is entered from the
state before the instruction, for a store with only words below the aborted one written (R98), in ascending order (R116;
log 27), and with the count of free values. -/
def AbortsAt (i : Instr) (s : State) (kind : AccessKind) (a : Word) (k : Nat) : Prop :=
  if kind = .write then ∃ m f, exec i s = .next (enter .dataAbort { s with mem := m, freeCount := f }) ∧
    SameMemoryBut s { s with mem := m } a (4 * k)
  else exec i s = .next (enter .dataAbort s)

/-- How a transfer of `n` words ends (R108, R91, R98): the tests on its addresses, the first access that aborts, and
otherwise `ok`. -/
def BlockYields (start : Word) (n : Nat) (kind : AccessKind) (i : Instr) (s : State) (ok : Prop) : Prop :=
  let a := start &&& 0xFFFFFFFC; let aborts := fun j => s.extAbort (a + BitVec.ofNat 32 (4 * j)) 4 kind s.privileged
  if start &&& 3 ≠ 0 ∧ (s.aBit || s.uBit) then exec i s = .next (enter .dataAbort s)
  else if crossesTop a (4 * n) then exec i s = .fault .addressWrap
  else ((∀ j < n, aborts j = false) → ok) ∧
    ∀ k < n, (∀ j < k, aborts j = false) → aborts k = true → AbortsAt i s kind a k

/-- Where the alignment test of the multiple transfers passes (R108). -/
abbrev State.BlockAligned (s : State) (start : Word) : Prop := start &&& 3 = 0 ∨ (s.aBit = false ∧ s.uBit = false)

end Sys2Proof.Machine

/-- R98, R108, R281, R284, R285, R286: LDC and STC of a present coprocessor other than p15, in both forms and every address
form: the words are read from or stored at ascending word addresses, and the base is written back by the pre- and
post-indexed forms. The number of words is the coprocessor's. An LDC that aborts changes no coprocessor register (log 20); a
store leaves the marks of the monitor and opens it (log 18).
An access that aborts writes no register (R98); that a store has then written only words below it is log 27. -/
def Obligations.CoprocessorLoadsAndStoresYield : Prop :=
  ∀ (c : Cond) (n two : Bool) (rn cd cp : RegNum) (addr : CpAddressing) (s : State), s.Ready c 4 →
    let ldcReq : CpReq := { cp := cp, kind := .ldc, two := two, cd := cd, long := n, option := addr.low }
    let stcReq : CpReq := { cp := cp, kind := .stc, two := two, cd := cd, long := n, option := addr.low }
    let ldc := if two then Instr.ldc2 n rn cd cp addr else .ldc c n rn cd cp addr
    let stc := if two then Instr.stc2 n rn cd cp addr else .stc c n rn cd cp addr
    let start := cpStart addr (s.reg rn); let a := start &&& 0xFFFFFFFC; let old := s.cop[cp.val].regs
    let dests := if (cpNewBase addr (s.reg rn)).isSome then [rn] else []
    let base := fun t : State => ∀ v, cpNewBase addr (s.reg rn) = some v → t.reg rn = v
    let nl := (Config.cpLdcCount ldcReq old).val + 1; let ns := (Config.cpStcCount stcReq old).val + 1
    let bad := cpWritesBack addr && rn == 15
    (s.Accepts cp ldc → if bad then exec ldc s = .fault .coprocessorBasePc
      else BlockYields start nl .read ldc s (Yields ldc s fun t =>
        base t ∧ UpdatesCp s cp (deliver ldcReq
          ((List.range nl).map fun j => s.dataWord (a + BitVec.ofNat 32 (4 * j))) old) dests t)) ∧
    (s.Accepts cp stc → if bad then exec stc s = .fault .coprocessorBasePc
      else BlockYields start ns .write stc s (Yields stc s fun t =>
        base t ∧ StoreFrame s.openMonitor t (s.pc + 4) dests a (4 * ns) ∧
        ∀ j < ns, t.dataWord (a + BitVec.ofNat 32 (4 * j)) = Config.cpStcWord { stcReq with option := 0 } j old))

/-! ## ARM loads and stores -/

namespace Sys2Proof.Machine

/-- The address of a transfer and the base it writes back, if any (R321). -/
def transferAddress (idx : Indexing) (u : Bool) (base off : Word) : Word × Option Word :=
  let moved := if u then base + off else base - off
  match idx with
  | .offset => (moved, none)
  | .pre => (moved, some moved)
  | .post => (base, some moved)

/-- The registers that a transfer breaks a restriction with (R322). -/
def transferStops (wb : Bool) (rn rd : RegNum) (rm : Option RegNum) (pcAllowed : Bool) : Bool :=
  (wb && rn == rd) || (wb && rn == 15) || rm == some 15 || (rd == 15 && !pcAllowed) || (wb && rm == some rn)

/-- The names of those stops. -/
def transferFaults : List Fault :=
  [.writebackOverlap, .writebackPc, .offsetPc, .transferPc, .offsetWritebackOverlap]

/-- How one access of `n` bytes at `a` ends (R323, R105, R106, R91, R96, R98): a register restriction stops it, an
alignment fault or an abort enters the data abort with nothing changed, an access across the top of memory stops it;
otherwise `ok`. -/
def AccessYields (bad : Bool) (alignAborts alignOpen : Bool) (a : Word) (n : Nat) (kind : AccessKind) (priv : Bool)
    (i : Instr) (s : State) (ok : Prop) : Prop :=
  if bad then ∃ f ∈ transferFaults, exec i s = .fault f
  else if alignAborts then exec i s = .next (enter .dataAbort s)
  else if alignOpen then exec i s = .fault .unalignedUnpredictable
  else if crossesTop a n then exec i s = .fault .addressWrap
  else if s.extAbort a n kind priv then exec i s = .next (enter .dataAbort s)
  else ok

/-- A word access. -/
def WordYields (bad : Bool) (a : Word) (kind : AccessKind) (priv : Bool) (i : Instr) (s : State) (ok : Prop) : Prop :=
  AccessYields bad (a &&& 3 != 0 && s.aBit) false (s.wordAccess a) 4 kind priv i s ok

/-- A halfword access. -/
def HalfYields (bad : Bool) (a : Word) (kind : AccessKind) (priv : Bool) (i : Instr) (s : State) (ok : Prop) : Prop :=
  AccessYields bad (a &&& 1 != 0 && s.aBit) (a &&& 1 != 0 && !s.uBit) a 2 kind priv i s ok

/-- A byte access. -/
def ByteYields (bad : Bool) (a : Word) (kind : AccessKind) (priv : Bool) (i : Instr) (s : State) (ok : Prop) : Prop :=
  AccessYields bad false false a 1 kind priv i s ok

/-- The base register, where the form writes it back. -/
def baseDest (rn : RegNum) (wb : Option Word) : List RegNum := if wb.isSome then [rn] else []

/-- The base holds the new address, where the form writes it back. -/
def BaseIs (t : State) (rn : RegNum) (wb : Option Word) : Prop := ∀ v, wb = some v → t.reg rn = v

/-- A load's effect: the value in Rd, the base, nothing else. -/
def Loaded (s : State) (rn rd : RegNum) (wb : Option Word) (v : Word) (t : State) : Prop :=
  t.reg rd = v ∧ BaseIs t rn wb ∧ Frame s t (s.pc + 4) (rd :: baseDest rn wb) 0

/-- A word store's effect at the address it touches. -/
def StoredWord (s : State) (rn : RegNum) (wb : Option Word) (a v : Word) (t : State) : Prop :=
  t.dataWord a = v ∧ BaseIs t rn wb ∧ StoreFrame s.openMonitor t (s.pc + 4) (baseDest rn wb) a 4

/-- What a store of register `rd` stores: for pc the address plus 8 or 12, the implementation's (R345). -/
def State.stored (s : State) (rd : RegNum) : Word :=
  if rd = 15 then s.pc + (if Config.pcStoreOffset12 then 12 else 8) else s.reg rd

end Sys2Proof.Machine

/-- R321, R322, R323, R325 to R328, R331, R105, R97: LDR, LDRB, LDRT, LDRBT in every form: the value, the rotation of an
unaligned word, the writeback, the exchange to a value loaded into pc, the stops and the aborts. The T forms access
memory as user mode does. -/
def Obligations.WordAndByteLoadsYield : Prop :=
  ∀ (c : Cond) (idx : Indexing) (u : Bool) (rn rd : RegNum) (off : WordOffset) (s : State), s.Ready c 4 →
    let x := transferAddress idx u (s.reg rn) (s.wordOffset off); let y := transferAddress .post u (s.reg rn) (s.wordOffset off)
    let bad := transferStops x.2.isSome rn rd (offsetReg off); let badT := transferStops true rn rd (offsetReg off) false
    let w := s.loadedWord x.1; let ldr := Instr.ldr c idx u rn rd off
    WordYields (bad true) x.1 .read s.privileged ldr s
      (if rd = 15 then YieldsUnless (decide (w &&& 3 = 2)) .exchangeUnaligned ldr s fun t =>
          t.thumb = w.getLsbD 0 ∧ BaseIs t rn x.2 ∧ Frame s t (w &&& 0xFFFFFFFE) (baseDest rn x.2) 0x20
        else Yields ldr s (Loaded s rn rd x.2 w)) ∧
    ByteYields (bad false) x.1 .read s.privileged (.ldrb c idx u rn rd off) s
      (Yields (.ldrb c idx u rn rd off) s (Loaded s rn rd x.2 ((s.byte x.1).setWidth 32))) ∧
    WordYields badT y.1 .read false (.ldrt c u rn rd off) s
      (Yields (.ldrt c u rn rd off) s (Loaded s rn rd y.2 (s.loadedWord y.1))) ∧
    ByteYields badT y.1 .read false (.ldrbt c u rn rd off) s
      (Yields (.ldrbt c u rn rd off) s (Loaded s rn rd y.2 ((s.byte y.1).setWidth 32)))

/-- R321, R322, R323, R340 to R343, R345, R106, R97: STR, STRB, STRT, STRBT in every form: the bytes stored, every other
byte as before, the writeback, the stops and the aborts.
A store leaves the marks of the monitor and opens it (R113; log 18). -/
def Obligations.WordAndByteStoresYield : Prop :=
  ∀ (c : Cond) (idx : Indexing) (u : Bool) (rn rd : RegNum) (off : WordOffset) (s : State), s.Ready c 4 →
    let x := transferAddress idx u (s.reg rn) (s.wordOffset off); let y := transferAddress .post u (s.reg rn) (s.wordOffset off)
    let bad := transferStops x.2.isSome rn rd (offsetReg off); let badT := transferStops true rn rd (offsetReg off) false
    let byte := fun (wb : Option Word) (a : Word) (t : State) =>
      t.byte a = (s.reg rd).extractLsb' 0 8 ∧ BaseIs t rn wb ∧ StoreFrame s.openMonitor t (s.pc + 4) (baseDest rn wb) a 1
    WordYields (bad true) x.1 .write s.privileged (.str c idx u rn rd off) s
      (Yields (.str c idx u rn rd off) s (StoredWord s rn x.2 (s.wordAccess x.1) (s.stored rd))) ∧
    ByteYields (bad false) x.1 .write s.privileged (.strb c idx u rn rd off) s
      (Yields (.strb c idx u rn rd off) s (byte x.2 x.1)) ∧
    WordYields badT y.1 .write false (.strt c u rn rd off) s
      (Yields (.strt c u rn rd off) s (StoredWord s rn y.2 (s.wordAccess y.1) (s.reg rd))) ∧
    ByteYields badT y.1 .write false (.strbt c u rn rd off) s
      (Yields (.strbt c u rn rd off) s (byte y.2 y.1))

/-- R321, R322, R323, R329, R330, R332, R344, R105, R106: LDRH, LDRSB, LDRSH, STRH in every form.
A store leaves the marks of the monitor and opens it (R113; log 18). -/
def Obligations.HalfwordTransfersYield : Prop :=
  ∀ (c : Cond) (idx : Indexing) (u : Bool) (rn rd : RegNum) (off : HalfOffset) (s : State), s.Ready c 4 →
    let x := transferAddress idx u (s.reg rn) (s.halfOffset off)
    let bad := transferStops x.2.isSome rn rd (halfOffsetReg off) false
    HalfYields bad x.1 .read s.privileged (.ldrh c idx u rn rd off) s
      (Yields (.ldrh c idx u rn rd off) s (Loaded s rn rd x.2 ((s.dataHalf x.1).setWidth 32))) ∧
    ByteYields bad x.1 .read s.privileged (.ldrsb c idx u rn rd off) s
      (Yields (.ldrsb c idx u rn rd off) s (Loaded s rn rd x.2 ((s.byte x.1).signExtend 32))) ∧
    HalfYields bad x.1 .read s.privileged (.ldrsh c idx u rn rd off) s
      (Yields (.ldrsh c idx u rn rd off) s (Loaded s rn rd x.2 ((s.dataHalf x.1).signExtend 32))) ∧
    HalfYields bad x.1 .write s.privileged (.strh c idx u rn rd off) s
      (Yields (.strh c idx u rn rd off) s fun t => t.dataHalf x.1 = (s.reg rd).extractLsb' 0 16 ∧ BaseIs t rn x.2 ∧
        StoreFrame s.openMonitor t (s.pc + 4) (baseDest rn x.2) x.1 2)

namespace Sys2Proof.Machine

/-- How LDRD and STRD test their address (R107): supported, a data abort, or UNPREDICTABLE. -/
def doubleAlign (a : Word) (abit ubit : Bool) : Option Bool :=
  if a &&& 7 = 0 then some true
  else match abit, ubit with
    | false, false => none
    | true, false => some false
    | _, true => some (decide (a &&& 3 = 0))

/-- The register pairs, bases and offset registers that LDRD and STRD exclude (R333, R346, R322;
spec/93_implementation_defined.md section 2). -/
def doubleStops (wb : Bool) (rn rd : RegNum) (rm : Option RegNum) : Bool :=
  rd.val % 2 == 1 || rd == 14 || (wb && (rn == rd || rn == rd + 1)) || rm == some rd || rm == some (rd + 1) ||
    transferStops wb rn rd rm false

end Sys2Proof.Machine

/-- R98, R107, R321, R322, R333, R346: LDRD and STRD: the word at the lower address belongs to the even register whatever E
is. An abort of either access writes no register, and an abort of the second keeps the first word stored. The offset
register of either may not be in the pair (for STRD by section 2 of spec/93: log 19); a store leaves the marks of the
monitor and opens it (log 18). -/
def Obligations.DoublewordTransfersYield : Prop :=
  ∀ (c : Cond) (idx : Indexing) (u : Bool) (rn rd : RegNum) (off : HalfOffset) (s : State), s.Ready c 4 →
    let x := transferAddress idx u (s.reg rn) (s.halfOffset off); let a := x.1
    let ldrd := Instr.ldrd c idx u rn rd off; let strd := Instr.strd c idx u rn rd off
    let guarded := fun (i : Instr) (ok : Prop) =>
      if doubleStops x.2.isSome rn rd (halfOffsetReg off) then
        ∃ f ∈ Fault.doublewordRegister :: .doublewordOverlap :: transferFaults, exec i s = .fault f
      else match doubleAlign a s.aBit s.uBit with
        | none => exec i s = .fault .unalignedUnpredictable
        | some false => exec i s = .next (enter .dataAbort s)
        | some true => if crossesTop a 8 then exec i s = .fault .addressWrap else ok
    let aborts := fun (b : Word) (kind : AccessKind) => s.extAbort b 4 kind s.privileged
    guarded ldrd (if aborts a .read || aborts (a + 4) .read then exec ldrd s = .next (enter .dataAbort s)
      else Yields ldrd s fun t =>
        t.reg rd = s.dataWord a ∧ t.reg (rd + 1) = s.dataWord (a + 4) ∧ BaseIs t rn x.2 ∧
        Frame s t (s.pc + 4) (rd :: (rd + 1) :: baseDest rn x.2) 0) ∧
    guarded strd (if aborts a .write then exec strd s = .next (enter .dataAbort s)
      else if aborts (a + 4) .write then
        ∃ m, exec strd s = .next (enter .dataAbort { s with mem := m }) ∧
          ({ s with mem := m } : State).dataWord a = s.reg rd ∧ SameMemoryBut s { s with mem := m } a 4
      else Yields strd s fun t =>
        t.dataWord a = s.reg rd ∧ t.dataWord (a + 4) = s.reg (rd + 1) ∧ BaseIs t rn x.2 ∧
        StoreFrame s.openMonitor t (s.pc + 4) (baseDest rn x.2) a 8)

namespace Sys2Proof.Machine

/-- How an access that must be word-aligned ends (R109): a register restriction stops it; an unaligned address is a data
abort where A or U is set and UNPREDICTABLE otherwise; then the top of memory. -/
def ExclusiveYields (bad : Bool) (f : Fault) (a : Word) (i : Instr) (s : State) (ok : Prop) : Prop :=
  if bad then exec i s = .fault f
  else if a &&& 3 ≠ 0 then
    if s.aBit || s.uBit then exec i s = .next (enter .dataAbort s) else exec i s = .fault .unalignedUnpredictable
  else ok

/-- Everything but the monitor is as in a frame: `s` with the monitor of `t`. -/
def State.withMonitor (s t : State) : State :=
  { s with exclOutstanding := t.exclOutstanding, exclAddr := t.exclAddr, openOutstanding := t.openOutstanding,
           openAddr := t.openAddr }

/-- The monitor records a mark of an access to `a`: the exact word address (R112, D20; log 17). -/
def State.Held (s : State) (a : Word) : Prop :=
  if s.shared a then s.exclAddr = some a else s.exclOutstanding = some a

/-- A store, an exception entry or an exception return came after that mark (R113; log 18). -/
def State.Doubtful (s : State) (a : Word) : Prop :=
  if s.shared a then s.openAddr = true else s.openOutstanding = true

/-- The monitor after `IsExclusive(a)` (R112). -/
def State.cleared (s : State) (a : Word) : State :=
  { s with exclOutstanding := none, exclAddr := if s.shared a then none else s.exclAddr }

/-- The monitor of `t` is that of `s` (R113's marks with it). -/
def SameMonitor (s t : State) : Prop :=
  t.exclOutstanding = s.exclOutstanding ∧ t.exclAddr = s.exclAddr ∧ t.openOutstanding = s.openOutstanding ∧
    t.openAddr = s.openAddr

end Sys2Proof.Machine

/-- R109, R110, R111, R112, R113, R334, R347: LDREX loads and marks the exact word address; STREX stores and answers 0
where that address is held, and answers 1 and stores nothing where it is not; either way the mark is gone, also where the
store aborts. That an STREX to memory that is not shared compares the address is D20, taken against R112's pseudocode
(log 17). Where a store, an entry or a return came between, either answer is possible (R113; log 18). -/
def Obligations.ExclusivesYield : Prop :=
  ∀ (c : Cond) (rn rd rm : RegNum) (s : State), s.Ready c 4 →
    let a := s.reg rn; let ldrex := Instr.ldrex c rn rd; let strex := Instr.strex c rn rd rm
    let badEx := rd == 15 || rm == 15 || rn == 15 || rd == rn || rd == rm
    let marks := if s.shared a then { s with exclAddr := some a, openAddr := false }
      else { s with exclOutstanding := some a, openOutstanding := false }
    let stored := if s.extAbort a 4 .write s.privileged then
        ∃ f, exec strex s = .next (enter .dataAbort { s.cleared a with freeCount := f })
      else Yields strex s fun t => t.reg rd = 0 ∧ t.dataWord a = s.reg rm ∧
        StoreFrame (s.withMonitor t) t (s.pc + 4) [rd] a 4 ∧ SameMonitor (s.cleared a) t
    let failed := Yields strex s fun t => t.reg rd = 1 ∧ Frame (s.withMonitor t) t (s.pc + 4) [rd] 0 ∧
      SameMonitor (s.cleared a) t
    ExclusiveYields (rd == 15 || rn == 15) .exclusiveRegister a ldrex s
      (if s.extAbort a 4 .read s.privileged then exec ldrex s = .next (enter .dataAbort s)
        else Yields ldrex s fun t => t.reg rd = s.dataWord a ∧ Frame (s.withMonitor t) t (s.pc + 4) [rd] 0 ∧
          SameMonitor marks t) ∧
    ExclusiveYields badEx .exclusiveRegister a strex s
      ((s.Held a → ¬ s.Doubtful a → stored) ∧ (s.Held a → s.Doubtful a → stored ∨ failed) ∧ (¬ s.Held a → failed))

/-- R109, R350, R351, R360: SWP and SWPB exchange a register and memory; an abort of the read or of the write leaves both.
Neither touches the exclusive monitor (R350). PLD only advances the pc; pc as its offset register is UNPREDICTABLE. -/
def Obligations.SwapsAndPreloadYield : Prop :=
  ∀ (c : Cond) (u : Bool) (rn rd rm : RegNum) (off : WordOffset) (s : State), s.Ready c 4 →
    let a := s.reg rn; let bad := rd == 15 || rm == 15 || rn == 15 || rn == rm || rn == rd
    let swp := Instr.swp c rn rd rm; let swpb := Instr.swpb c rn rd rm
    let aborts := fun n => s.extAbort a n .read s.privileged || s.extAbort a n .write s.privileged
    ExclusiveYields bad .swapRegister a swp s
      (if aborts 4 then exec swp s = .next (enter .dataAbort s)
        else Yields swp s fun t => t.reg rd = s.dataWord a ∧ t.dataWord a = s.reg rm ∧
          StoreFrame s t (s.pc + 4) [rd] a 4) ∧
    (if bad then exec swpb s = .fault .swapRegister
      else if aborts 1 then exec swpb s = .next (enter .dataAbort s)
      else Yields swpb s fun t => t.reg rd = (s.byte a).setWidth 32 ∧ t.byte a = (s.reg rm).extractLsb' 0 8 ∧
        StoreFrame s t (s.pc + 4) [rd] a 1) ∧
    (if offsetReg off = some 15 then exec (.pld u rn off) s = .fault .offsetPc
      else exec (.pld u rn off) s = .next { s with pc := s.pc + 4 })

/-! ## Multiple transfers -/

namespace Sys2Proof.Machine

/-- The lowest address and the base written back, of `n` words (R371). -/
def blockAddresses (p u : Bool) (base : Word) (n : Nat) : Word × Word :=
  let size := BitVec.ofNat 32 (4 * n)
  match p, u with
  | false, true => (base, base + size)
  | true, true => (base + 4, base + size)
  | false, false => (base - size + 4, base - size)
  | true, false => (base - size, base - size)

/-- Word `j` of a transfer whose lowest address is `start`. -/
def State.blockWord (s : State) (start : Word) (j : Nat) : Word :=
  s.dataWord ((start &&& 0xFFFFFFFC) + BitVec.ofNat 32 (4 * j))

/-- The registers of the list but pc, seen from mode `m`, hold the words in order. -/
def ListLoaded (s t : State) (m : Option Mode) (list : BitVec 16) (start : Word) : Prop :=
  ∀ (j : Nat) (r : RegNum), (regList list)[j]? = some r → r ≠ 15 → t.regIn m r = s.blockWord start j

/-- The base holds the new address where `!` is specified. -/
def blockDest (w : Bool) (rn : RegNum) : List RegNum := if w then [rn] else []

end Sys2Proof.Machine

/-- R108, R370, R371, R372, R373: LDM: the list holds the registers of the set bits in increasing order, the lowest
register is loaded from the lowest address, the base written back with `!`, pc in the
list an exchange to the loaded word.
An access that aborts enters the data abort with nothing changed (R98). -/
def Obligations.LoadMultipleYields : Prop :=
  ∀ (c : Cond) (p u w : Bool) (rn : RegNum) (list : BitVec 16) (s : State), s.Ready c 4 →
    let n := (regList list).length; let x := blockAddresses p u (s.reg rn) n; let i := Instr.ldm c p u w rn list
    let last := s.blockWord x.1 (n - 1); let dests := regList list ++ blockDest w rn
    (regList list).Pairwise (fun a b => a < b) ∧ (∀ r : RegNum, r ∈ regList list ↔ list.getLsbD r.val = true) ∧
    if list = 0 then exec i s = .fault .emptyList
    else if rn = 15 then exec i s = .fault .multipleBasePc
    else if w && list.getLsbD rn.val then exec i s = .fault .baseInList
    else BlockYields x.1 n .read i s
      (if list.getLsbD 15 then YieldsUnless (decide (last &&& 3 = 2)) .exchangeUnaligned i s fun t =>
          t.thumb = last.getLsbD 0 ∧ ListLoaded s t s.mode? list x.1 ∧ (w = true → t.reg rn = x.2) ∧
          Frame s t (last &&& 0xFFFFFFFE) dests 0x20
        else Yields i s fun t => ListLoaded s t s.mode? list x.1 ∧ (w = true → t.reg rn = x.2) ∧
          Frame s t (s.pc + 4) dests 0)

namespace Sys2Proof.Machine

/-- How an exception return of `new` to `target` ends (R675): the stops, or the cpsr and the pc together, the marks of the
monitor as before and open (R113; log 18). -/
def ReturnYields (i : Instr) (s : State) (psr target : Word) (dests : List RegNum) (post : State → Prop) : Prop :=
  let new := psr &&& 0xF90F03FF
  if listedMode (new.extractLsb' 0 5) = false then exec i s = .fault .returnMode
  else if new.getLsbD 24 then exec i s = .fault .returnJava
  else if new.getLsbD 5 = false ∧ target &&& 3 ≠ 0 then exec i s = .fault .branchUnaligned
  else Yields i s fun t => t.cpsr = new ∧ post t ∧
    Frame s.openMonitor t (if new.getLsbD 5 then target &&& 0xFFFFFFFE else target) dests 0xFFFFFFFF

end Sys2Proof.Machine

/-- R374, R375, R682: LDM with `^`: without pc the user-mode registers, with pc an exception return after the loads into
the registers of the old mode; UNPREDICTABLE in user and system mode.
The return leaves the marks of the monitor and opens it (R113; log 18).
An access that aborts enters the data abort with nothing changed (R98). -/
def Obligations.LoadMultipleUserAndReturnYield : Prop :=
  ∀ (c : Cond) (p u w : Bool) (rn : RegNum) (list : BitVec 15) (s : State), s.Ready c 4 →
    let ul : BitVec 16 := list.setWidth 16; let nu := (regList ul).length
    let xu := blockAddresses p u (s.reg rn) nu; let iu := Instr.ldmUser c p u w rn list
    let rl : BitVec 16 := 1#1 ++ list; let nr := (regList rl).length
    let xr := blockAddresses p u (s.reg rn) nr; let ir := Instr.ldmReturn c p u w rn list
    (if list = 0 then exec iu s = .fault .emptyList
      else if rn = 15 then exec iu s = .fault .multipleBasePc
      else if s.spsrIndex?.isNone then exec iu s = .fault .userBankMode
      else if w then exec iu s = .fault .userBankWriteback
      else BlockYields xu.1 nu .read iu s (Yields iu s fun t =>
        ListLoaded s t (some .usr) ul xu.1 ∧ t.pc = s.pc + 4 ∧ t.cpsr = s.cpsr ∧ SameSystem s t ∧ SameMemory s t ∧
        ∀ k : Fin 30, (∀ r ∈ regList ul, bank (some .usr) r ≠ some k) → t.regs[k.val] = s.regs[k.val])) ∧
    (if rn = 15 then exec ir s = .fault .multipleBasePc
      else match s.spsr? with
        | none => exec ir s = .fault .userBankMode
        | some psr =>
          if w && rl.getLsbD rn.val then exec ir s = .fault .baseInList
          else BlockYields xr.1 nr .read ir s
            (ReturnYields ir s psr (s.blockWord xr.1 (nr - 1)) (regList rl ++ blockDest w rn) fun t =>
              ListLoaded s t s.mode? rl xr.1 ∧ (w = true → t.regIn s.mode? rn = xr.2)))

/-- R377, R378, R379, R682: STM: the lowest register to the lowest address, the original base where it is the first of the
list, a free value where it is a later one with `!` (nothing is said of that word but its place), the implementation's
value for pc. STM with `^` stores the user-mode registers, without writeback, in a mode that has an spsr.
A store leaves the marks of the monitor and opens it (R113; log 18).
An access that aborts writes no register (R98); that a store has then written only words below it is log 27. -/
def Obligations.StoreMultipleYields : Prop :=
  ∀ (c : Cond) (p u w : Bool) (rn : RegNum) (list : BitVec 16) (s : State), s.Ready c 4 →
    let n := (regList list).length; let x := blockAddresses p u (s.reg rn) n
    let i := Instr.stm c p u w rn list; let iu := Instr.stmUser c p u w rn list
    (if list = 0 then exec i s = .fault .emptyList
      else if rn = 15 then exec i s = .fault .multipleBasePc
      else BlockYields x.1 n .write i s (Yields i s fun t =>
        (∀ (j : Nat) (r : RegNum), (regList list)[j]? = some r → (w = true ∧ r = rn → j = 0) →
          t.blockWord x.1 j = s.stored r) ∧
        (w = true → t.reg rn = x.2) ∧ StoreFrame s.openMonitor t (s.pc + 4) (blockDest w rn) (x.1 &&& 0xFFFFFFFC) (4 * n))) ∧
    (if list = 0 then exec iu s = .fault .emptyList
      else if rn = 15 then exec iu s = .fault .multipleBasePc
      else if s.spsrIndex?.isNone then exec iu s = .fault .userBankMode
      else if w then exec iu s = .fault .userBankWriteback
      else BlockYields x.1 n .write iu s (Yields iu s fun t =>
        (∀ (j : Nat) (r : RegNum), (regList list)[j]? = some r →
          t.blockWord x.1 j = if r = 15 then s.stored 15 else s.regIn (some .usr) r) ∧
        StoreFrame s.openMonitor t (s.pc + 4) [] (x.1 &&& 0xFFFFFFFC) (4 * n)))

/-- R382, R383, R675, R682: RFE loads the pc and the cpsr and returns to them; SRS stores lr and the spsr of the current
mode on the stack of the named mode, whose r13 alone is written back.
Both leave the marks of the monitor and open it (R113; log 18).
An access that aborts writes no register (R98); that a store has then written only words below it is log 27. -/
def Obligations.ReturnStateTransfersYield : Prop :=
  ∀ (p u w : Bool) (rn : RegNum) (mode : BitVec 5) (s : State), s.pc.toNat + 4 < 2 ^ 32 →
    let x := blockAddresses p u (s.reg rn) 2; let rfe := Instr.rfe p u w rn; let srs := Instr.srs p u w mode
    (if modeField s.cpsr = 0x10 then exec rfe s = .fault .rfeUserMode
      else if rn = 15 then exec rfe s = .fault .multipleBasePc
      else BlockYields x.1 2 .read rfe s
        (ReturnYields rfe s (s.blockWord x.1 1) (s.blockWord x.1 0) (blockDest w rn) fun t =>
          w = true → t.regIn s.mode? rn = x.2)) ∧
    (match s.spsr?, Mode.ofBits mode with
      | none, _ => exec srs s = .fault .noSpsr
      | some _, none => exec srs s = .fault .unlistedMode
      | some psr, some m =>
        let y := blockAddresses p u (s.regIn (some m) 13) 2
        BlockYields y.1 2 .write srs s (Yields srs s fun t =>
          t.blockWord y.1 0 = s.reg 14 ∧ t.blockWord y.1 1 = psr ∧ t.pc = s.pc + 4 ∧ t.cpsr = s.cpsr ∧
          (w = true → t.regIn (some m) 13 = y.2) ∧
          (∀ k : Fin 30, (w = true → bank (some m) 13 ≠ some k) → t.regs[k.val] = s.regs[k.val]) ∧
          SameSystem s.openMonitor t ∧ SameMemoryBut s t (y.1 &&& 0xFFFFFFFC) 8))

/-- R98: an aborted LDM or STM, with `^` or without, writes no register of the interrupted program. A load enters the data
abort from the state before it; a store from that state with the words below the aborted one written, each with its value,
and no others: ascending order is the spec's choice (R116, D19; log 27). The entry leaves the marks of the monitor and opens
it (log 18). The aborts of RFE, SRS, the Thumb multiples, LDC and STC are in their own statements. -/
def Obligations.AbortedMultiplesWriteNoRegister : Prop :=
  ∀ (c : Cond) (p u w : Bool) (rn : RegNum) (list : BitVec 16) (s : State) (k : Nat), s.passed c = true → list ≠ 0 →
    rn ≠ 15 →
    let n := (regList list).length; let start := (blockAddresses p u (s.reg rn) n).1; let a := start &&& 0xFFFFFFFC
    let banked := s.spsrIndex?.isSome = true; let low : BitVec 15 := list.setWidth 15
    let inList := w && list.getLsbD rn.val
    let partly := fun (i : Instr) (value : Nat → RegNum → Word → Prop) =>
      ∃ m f, exec i s = .next (enter .dataAbort { s with mem := m, freeCount := f }) ∧
        SameMemoryBut s { s with mem := m } a (4 * k) ∧
        ∀ j < k, ∀ r, (regList list)[j]? = some r → value j r (({ s with mem := m } : State).blockWord start j)
    s.BlockAligned start → crossesTop a (4 * n) = false → k < n →
    (s.extAbort (a + BitVec.ofNat 32 (4 * k)) 4 .read s.privileged = true →
      (inList = false → exec (.ldm c p u w rn list) s = .next (enter .dataAbort s)) ∧
      (banked → w = false → list.getLsbD 15 = false →
        exec (.ldmUser c p u w rn low) s = .next (enter .dataAbort s)) ∧
      (banked → inList = false → list.getLsbD 15 = true →
        exec (.ldmReturn c p u w rn low) s = .next (enter .dataAbort s))) ∧
    ((∀ j < k, s.extAbort (a + BitVec.ofNat 32 (4 * j)) 4 .write s.privileged = false) →
      s.extAbort (a + BitVec.ofNat 32 (4 * k)) 4 .write s.privileged = true →
      partly (.stm c p u w rn list) (fun j r v => (w = true ∧ r = rn → j = 0) → v = s.stored r) ∧
      (banked → w = false → partly (.stmUser c p u w rn list)
        (fun _ r v => v = if r = 15 then s.stored 15 else s.regIn (some .usr) r)))

/-! ## Thumb data processing -/

namespace Sys2Proof.Machine

/-- A low register written with `r`, N and Z of it and the flags of `mask`, nothing else. -/
def LowYields (i : Instr) (s : State) (ld : LowReg) (mask : Word) (r : Word) (flags : State → Prop) : Prop :=
  Yields i s fun t => t.lreg ld = r ∧ Frame s t (s.pc + 2) [low ld] mask ∧ t.flagN = r.msb ∧ t.flagZ = (r == 0) ∧
    flags t

/-- C and V of the sum `x + y + cin`. -/
def SumFlags (x y : Word) (cin : Bool) (t : State) : Prop :=
  t.flagC = decide (2 ^ 32 ≤ x.toNat + y.toNat + cin.toNat) ∧
  t.flagV = overflowed (x + y + bitWord cin) (x.toInt + y.toInt + cin.toNat)

/-- C and V of the difference `x - y - b`. -/
def DifferenceFlags (x y : Word) (b : Bool) (t : State) : Prop :=
  t.flagC = noBorrow x y b ∧ t.flagV = overflowed (x - y - bitWord b) (x.toInt - y.toInt - b.toNat)

end Sys2Proof.Machine

/-- R522 to R524, R529, R534 to R538, R541, R542, R546 to R549: the Thumb shifts, moves and logical operations: N and Z
of the result, the shifts C of the shifter, V preserved; TST writes no register; MUL of a register by itself is
UNPREDICTABLE and leaves C free. -/
def Obligations.ThumbShiftsAndLogicYield : Prop :=
  ∀ (imm5 : BitVec 5) (imm8 : BitVec 8) (lm ld : LowReg) (s : State), s.Ready .al 2 →
    let m := s.lreg lm; let d := s.lreg ld; let cin := s.flagC; let k := m.toNat % 256
    let shifted := fun (i : Instr) (r : Word × Bool) => LowYields i s ld maskNZC r.1 fun t => t.flagC = r.2
    let logic := fun (i : Instr) (r : Word) => LowYields i s ld maskNZ r fun _ => True
    let full := if imm5 = 0 then 32 else imm5.toNat
    shifted (.tLslImm imm5 lm ld) (shift m .lsl imm5.toNat cin) ∧ shifted (.tLsrImm imm5 lm ld) (shift m .lsr full cin) ∧
    shifted (.tAsrImm imm5 lm ld) (shift m .asr full cin) ∧ shifted (.tLslReg lm ld) (shift d .lsl k cin) ∧
    shifted (.tLsrReg lm ld) (shift d .lsr k cin) ∧ shifted (.tAsrReg lm ld) (shift d .asr k cin) ∧
    shifted (.tRor lm ld) (shift d .ror k cin) ∧
    logic (.tMovImm ld imm8) (imm8.setWidth 32) ∧ logic (.tAnd lm ld) (d &&& m) ∧ logic (.tEor lm ld) (d ^^^ m) ∧
    logic (.tOrr lm ld) (d ||| m) ∧ logic (.tBic lm ld) (d &&& ~~~m) ∧ logic (.tMvn lm ld) (~~~m) ∧
    Yields (.tTst lm ld) s (fun t =>
      Frame s t (s.pc + 2) [] maskNZ ∧ t.flagN = (d &&& m).msb ∧ t.flagZ = (d &&& m == 0)) ∧
    (if lm = ld then exec (.tMul lm ld) s = .fault .multiplyOverlap
      else LowYields (.tMul lm ld) s ld maskNZC (m * d) fun _ => True)

/-- R525 to R528, R530 to R532, R539, R540, R543 to R545, R562: the Thumb sums, differences and compares and their four
flags; the compares write no register. -/
def Obligations.ThumbArithmeticYields : Prop :=
  ∀ (imm3 : BitVec 3) (imm8 : BitVec 8) (lm ln ld : LowReg) (rn rm : RegNum) (s : State), s.Ready .al 2 →
    let m := s.lreg lm; let n := s.lreg ln; let d := s.lreg ld; let cin := s.flagC
    let sum := fun (i : Instr) (x y : Word) (c : Bool) =>
      LowYields i s ld maskNZCV (x + y + bitWord c) (SumFlags x y c)
    let dif := fun (i : Instr) (x y : Word) (b : Bool) =>
      LowYields i s ld maskNZCV (x - y - bitWord b) (DifferenceFlags x y b)
    let test := fun (i : Instr) (r : Word) (flags : State → Prop) => Yields i s fun t =>
      Frame s t (s.pc + 2) [] maskNZCV ∧ t.flagN = r.msb ∧ t.flagZ = (r == 0) ∧ flags t
    sum (.tAddReg lm ln ld) n m false ∧ dif (.tSubReg lm ln ld) n m false ∧
    sum (.tAddImm3 imm3 ln ld) n (imm3.setWidth 32) false ∧ dif (.tSubImm3 imm3 ln ld) n (imm3.setWidth 32) false ∧
    sum (.tAddImm8 ld imm8) d (imm8.setWidth 32) false ∧ dif (.tSubImm8 ld imm8) d (imm8.setWidth 32) false ∧
    sum (.tAdc lm ld) d m cin ∧ dif (.tSbc lm ld) d m (!cin) ∧ dif (.tNeg lm ld) 0 m false ∧
    test (.tCmpImm ln imm8) (n - imm8.setWidth 32) (DifferenceFlags n (imm8.setWidth 32) false) ∧
    test (.tCmpReg lm ln) (n - m) (DifferenceFlags n m false) ∧ test (.tCmn lm ln) (n + m) (SumFlags n m false) ∧
    test (.tCmpHigh rn rm) (s.reg rn - s.reg rm) (DifferenceFlags (s.reg rn) (s.reg rm) false)

/-- R550 to R556, R560, R561, R563 to R567: the Thumb moves, high-register adds, address sums, extends and byte
reversals write no flag; a high-register ADD or MOV to pc jumps and stays in Thumb state. -/
def Obligations.ThumbMovesAndExtendsYield : Prop :=
  ∀ (imm8 : BitVec 8) (imm7 : BitVec 7) (lm ld : LowReg) (rd rm : RegNum) (s : State), s.Ready .al 2 → s.thumb = true →
    let m := s.lreg lm; let sp := s.reg 13
    let moved := fun (i : Instr) (r : Word) => Yields i s (WritesReg 2 s (low ld) r)
    let high := fun (i : Instr) (r : Word) =>
      if rd = 15 then Yields i s fun t => Frame s t (r &&& 0xFFFFFFFE) [] 0 else Yields i s (WritesReg 2 s rd r)
    high (.tAddHigh rd rm) (s.reg rd + s.reg rm) ∧ high (.tMovHigh rd rm) (s.reg rm) ∧ moved (.tCpy ld lm) m ∧
    moved (.tAddPc ld imm8) (((s.pc + 4) &&& 0xFFFFFFFC) + 4 * imm8.setWidth 32) ∧
    moved (.tAddSp ld imm8) (sp + 4 * imm8.setWidth 32) ∧
    Yields (.tAddSpImm imm7) s (WritesReg 2 s 13 (sp + 4 * imm7.setWidth 32)) ∧
    Yields (.tSubSpImm imm7) s (WritesReg 2 s 13 (sp - 4 * imm7.setWidth 32)) ∧
    moved (.tSxth lm ld) ((lowHalf m).signExtend 32) ∧ moved (.tSxtb lm ld) ((byteAt m 0).signExtend 32) ∧
    moved (.tUxth lm ld) ((lowHalf m).setWidth 32) ∧ moved (.tUxtb lm ld) ((byteAt m 0).setWidth 32) ∧
    moved (.tRev lm ld) (byteAt m 0 ++ byteAt m 1 ++ byteAt m 2 ++ byteAt m 3) ∧
    moved (.tRev16 lm ld) (byteAt m 2 ++ byteAt m 3 ++ byteAt m 0 ++ byteAt m 1) ∧
    moved (.tRevsh lm ld) ((byteAt m 0).signExtend 24 ++ byteAt m 1)

/-! ## Thumb loads and stores -/

/-- R591, R593, R595, R597 to R601, R605, R606, R105: the Thumb loads: the address of each form, the value, the
alignment rules and the aborts of the ARM loads. -/
def Obligations.ThumbLoadsYield : Prop :=
  ∀ (imm5 : BitVec 5) (imm8 : BitVec 8) (lm ln ld : LowReg) (s : State), s.Ready .al 2 →
    let sum := s.lreg ln + s.lreg lm; let off := fun k : Word => s.lreg ln + k * imm5.setWidth 32
    let pcRel := ((s.pc + 4) &&& 0xFFFFFFFC) + 4 * imm8.setWidth 32; let spRel := s.reg 13 + 4 * imm8.setWidth 32
    let loaded := fun (i : Instr) (v : Word) => Yields i s (WritesReg 2 s (low ld) v)
    let word := fun (i : Instr) (a : Word) => WordYields false a .read s.privileged i s (loaded i (s.loadedWord a))
    let half := fun (i : Instr) (a v : Word) => HalfYields false a .read s.privileged i s (loaded i v)
    let byte := fun (i : Instr) (a v : Word) => ByteYields false a .read s.privileged i s (loaded i v)
    word (.tLdrPc ld imm8) pcRel ∧ word (.tLdrSp ld imm8) spRel ∧ word (.tLdrImm imm5 ln ld) (off 4) ∧
    word (.tLdrReg lm ln ld) sum ∧
    half (.tLdrhImm imm5 ln ld) (off 2) ((s.dataHalf (off 2)).setWidth 32) ∧
    half (.tLdrhReg lm ln ld) sum ((s.dataHalf sum).setWidth 32) ∧
    half (.tLdrshReg lm ln ld) sum ((s.dataHalf sum).signExtend 32) ∧
    byte (.tLdrbImm imm5 ln ld) (off 1) ((s.byte (off 1)).setWidth 32) ∧
    byte (.tLdrbReg lm ln ld) sum ((s.byte sum).setWidth 32) ∧
    byte (.tLdrsbReg lm ln ld) sum ((s.byte sum).signExtend 32)

/-- R592, R594, R596, R602, R603, R604, R607, R106: the Thumb stores: the address of each form, the bytes stored, every
other byte and every register as before, the alignment rules and the aborts of the ARM stores.
A store leaves the marks of the monitor and opens it (R113; log 18). -/
def Obligations.ThumbStoresYield : Prop :=
  ∀ (imm5 : BitVec 5) (imm8 : BitVec 8) (lm ln ld : LowReg) (s : State), s.Ready .al 2 →
    let sum := s.lreg ln + s.lreg lm; let off := fun k : Word => s.lreg ln + k * imm5.setWidth 32
    let spRel := s.reg 13 + 4 * imm8.setWidth 32; let v := s.lreg ld
    let word := fun (i : Instr) (a : Word) => WordYields false a .write s.privileged i s (Yields i s fun t =>
      t.dataWord (s.wordAccess a) = v ∧ StoreFrame s.openMonitor t (s.pc + 2) [] (s.wordAccess a) 4)
    let half := fun (i : Instr) (a : Word) => HalfYields false a .write s.privileged i s (Yields i s fun t =>
      t.dataHalf a = v.extractLsb' 0 16 ∧ StoreFrame s.openMonitor t (s.pc + 2) [] a 2)
    let byte := fun (i : Instr) (a : Word) => ByteYields false a .write s.privileged i s (Yields i s fun t =>
      t.byte a = v.extractLsb' 0 8 ∧ StoreFrame s.openMonitor t (s.pc + 2) [] a 1)
    word (.tStrSp ld imm8) spRel ∧ word (.tStrImm imm5 ln ld) (off 4) ∧ word (.tStrReg lm ln ld) sum ∧
    half (.tStrhImm imm5 ln ld) (off 2) ∧ half (.tStrhReg lm ln ld) sum ∧
    byte (.tStrbImm imm5 ln ld) (off 1) ∧ byte (.tStrbReg lm ln ld) sum

/-- R610 to R613, R108, R378: PUSH and POP, whose pc is an exchange to the loaded word, and the Thumb STMIA and LDMIA,
which always write their base back.
A store leaves the marks of the monitor and opens it (R113; log 18).
An access that aborts writes no register (R98); that a store has then written only words below it is log 27. -/
def Obligations.ThumbMultiplesYield : Prop :=
  ∀ (r : Bool) (l8 : BitVec 8) (ln : LowReg) (s : State), s.Ready .al 2 →
    let pushed : BitVec 16 := bit false ++ bit r ++ 0#6 ++ l8; let popped : BitVec 16 := bit r ++ 0#7 ++ l8
    let plain : BitVec 16 := 0#8 ++ l8; let np := (regList pushed).length; let n := (regList plain).length
    let sp := s.reg 13; let base := s.lreg ln
    let up := fun (a : Word) (k : Nat) => a + BitVec.ofNat 32 (4 * k)
    let top := sp - BitVec.ofNat 32 (4 * np); let last := s.blockWord sp (np - 1)
    (if pushed = 0 then exec (.tPush r l8) s = .fault .emptyList
      else BlockYields top np .write (.tPush r l8) s (Yields (.tPush r l8) s fun t =>
        (∀ (j : Nat) (q : RegNum), (regList pushed)[j]? = some q → t.blockWord top j = s.reg q) ∧ t.reg 13 = top ∧
        StoreFrame s.openMonitor t (s.pc + 2) [13] (top &&& 0xFFFFFFFC) (4 * np))) ∧
    (if popped = 0 then exec (.tPop r l8) s = .fault .emptyList
      else BlockYields sp np .read (.tPop r l8) s
        (if r then YieldsUnless (decide (last &&& 3 = 2)) .exchangeUnaligned (.tPop r l8) s fun t =>
            t.thumb = last.getLsbD 0 ∧ ListLoaded s t s.mode? popped sp ∧ t.reg 13 = up sp np ∧
            Frame s t (last &&& 0xFFFFFFFE) (13 :: regList popped) 0x20
          else Yields (.tPop r l8) s fun t => ListLoaded s t s.mode? popped sp ∧ t.reg 13 = up sp np ∧
            Frame s t (s.pc + 2) (13 :: regList popped) 0)) ∧
    (if l8 = 0 then exec (.tStmia ln l8) s = .fault .emptyList
      else BlockYields base n .write (.tStmia ln l8) s (Yields (.tStmia ln l8) s fun t =>
        (∀ (j : Nat) (q : RegNum), (regList plain)[j]? = some q → (q = low ln → j = 0) →
          t.blockWord base j = s.reg q) ∧
        t.lreg ln = up base n ∧ StoreFrame s.openMonitor t (s.pc + 2) [low ln] (base &&& 0xFFFFFFFC) (4 * n))) ∧
    (if l8 = 0 then exec (.tLdmia ln l8) s = .fault .emptyList
      else if l8.getLsbD ln.val then exec (.tLdmia ln l8) s = .fault .baseInList
      else BlockYields base n .read (.tLdmia ln l8) s (Yields (.tLdmia ln l8) s fun t =>
        ListLoaded s t s.mode? plain base ∧ t.lreg ln = up base n ∧
        Frame s t (s.pc + 2) (low ln :: regList plain) 0))

/-! ## Thumb branches -/

/-- R620, R621, R626, R627, R630 to R633: the Thumb branches: targets, lr with bit 0 set, T, and nothing else. A BL or
BLX pair is one instruction; its prefix and then its suffix run alone have the same effect (the halves alone are the
model's choice, log 15). -/
def Obligations.ThumbBranchesJump : Prop :=
  ∀ (c : Cond) (o8 : BitVec 8) (o11 p11 : BitVec 11) (o10 : BitVec 10) (rm : RegNum) (s : State), s.Ready .al 2 →
    s.thumb = true → s.pc &&& 1 = 0 →
    let here := s.pc + 4; let near := fun k : Int => here + BitVec.ofInt 32 (2 * k)
    let far := here + BitVec.ofInt 32 (4096 * p11.toInt)
    let ret := (s.pc + 2) ||| 1; let retPair := (s.pc + 4) ||| 1; let lr := s.reg 14
    let toArm := fun (i : Instr) (a link : Word) => Yields i s fun t =>
      t.thumb = false ∧ t.reg 14 = link ∧ Frame s t (a &&& 0xFFFFFFFC) [14] 0x20
    let stay := fun (i : Instr) (a link : Word) => Yields i s fun t =>
      t.reg 14 = link ∧ Frame s t (a &&& 0xFFFFFFFE) [14] 0
    Yields (.tBCond c o8) s (fun t => Frame s t (if s.passed c then near o8.toInt else s.pc + 2) [] 0) ∧
    Yields (.tB o11) s (fun t => Frame s t (near o11.toInt) [] 0) ∧
    ExchangesTo (s.reg rm) [] (.tBx rm) s (fun _ => True) ∧
    (if rm = 15 then exec (.tBlxReg rm) s = .fault .blxPc
      else ExchangesTo (s.reg rm) [14] (.tBlxReg rm) s (fun t => t.reg 14 = ret)) ∧
    stay (.tBl p11 o11) (far + BitVec.ofNat 32 (2 * o11.toNat)) retPair ∧
    toArm (.tBlx p11 o10) (far + BitVec.ofNat 32 (4 * o10.toNat)) retPair ∧
    Yields (.tBlBlxPrefix p11) s (WritesReg 2 s 14 far) ∧
    stay (.tBlSuffix o11) (lr + BitVec.ofNat 32 (2 * o11.toNat)) ret ∧
    toArm (.tBlxSuffix o10) (lr + BitVec.ofNat 32 (4 * o10.toNat)) ret ∧
    ∀ t, exec (.tBlBlxPrefix p11) s = .next t → exec (.tBlSuffix o11) t = exec (.tBl p11 o11) s ∧
      exec (.tBlxSuffix o10) t = exec (.tBlx p11 o10) s
end

