-- ==== Sys2Proof/Laws/State.lean ====
section
/-! SUPPORT. One lemma for each field and each update of State, so that no proof unfolds a record update; the reads of
registers after a write. -/

namespace Sys2Proof.Machine

@[simp] theorem State.setCpsr_regs (s : State) (w : Word) : (s.setCpsr w).regs = s.regs := rfl
@[simp] theorem State.setCpsr_pc (s : State) (w : Word) : (s.setCpsr w).pc = s.pc := rfl
@[simp] theorem State.setCpsr_cpsr (s : State) (w : Word) : (s.setCpsr w).cpsr = w := rfl
@[simp] theorem State.setCpsr_spsr (s : State) (w : Word) : (s.setCpsr w).spsr = s.spsr := rfl
@[simp] theorem State.setCpsr_exclOutstanding (s : State) (w : Word) : (s.setCpsr w).exclOutstanding = s.exclOutstanding :=
  rfl
@[simp] theorem State.setCpsr_exclAddr (s : State) (w : Word) : (s.setCpsr w).exclAddr = s.exclAddr := rfl
@[simp] theorem State.setCpsr_openOutstanding (s : State) (w : Word) : (s.setCpsr w).openOutstanding = s.openOutstanding := rfl
@[simp] theorem State.setCpsr_openAddr (s : State) (w : Word) : (s.setCpsr w).openAddr = s.openAddr := rfl
@[simp] theorem State.setCpsr_cop (s : State) (w : Word) : (s.setCpsr w).cop = s.cop := rfl
@[simp] theorem State.setCpsr_cp15c1 (s : State) (w : Word) : (s.setCpsr w).cp15c1 = s.cp15c1 := rfl
@[simp] theorem State.setCpsr_hivecs (s : State) (w : Word) : (s.setCpsr w).hivecs = s.hivecs := rfl
@[simp] theorem State.setCpsr_je (s : State) (w : Word) : (s.setCpsr w).je = s.je := rfl
@[simp] theorem State.setCpsr_satSetsQ (s : State) (w : Word) : (s.setCpsr w).satSetsQ = s.satSetsQ := rfl
@[simp] theorem State.setCpsr_irqPending (s : State) (w : Word) : (s.setCpsr w).irqPending = s.irqPending := rfl
@[simp] theorem State.setCpsr_fiqPending (s : State) (w : Word) : (s.setCpsr w).fiqPending = s.fiqPending := rfl
@[simp] theorem State.setCpsr_resetPending (s : State) (w : Word) : (s.setCpsr w).resetPending = s.resetPending := rfl
@[simp] theorem State.setCpsr_aborts (s : State) (w : Word) : (s.setCpsr w).aborts = s.aborts := rfl
@[simp] theorem State.setCpsr_attrs (s : State) (w : Word) : (s.setCpsr w).attrs = s.attrs := rfl
@[simp] theorem State.setCpsr_mem (s : State) (w : Word) : (s.setCpsr w).mem = s.mem := rfl
@[simp] theorem State.setCpsr_freeCount (s : State) (w : Word) : (s.setCpsr w).freeCount = s.freeCount := rfl

@[simp] theorem State.setPc_regs (s : State) (a : Word) : (s.setPc a).regs = s.regs := rfl
@[simp] theorem State.setPc_pc (s : State) (a : Word) : (s.setPc a).pc = a := rfl
@[simp] theorem State.setPc_cpsr (s : State) (a : Word) : (s.setPc a).cpsr = s.cpsr := rfl
@[simp] theorem State.setPc_spsr (s : State) (a : Word) : (s.setPc a).spsr = s.spsr := rfl
@[simp] theorem State.setPc_exclOutstanding (s : State) (a : Word) : (s.setPc a).exclOutstanding = s.exclOutstanding :=
  rfl
@[simp] theorem State.setPc_exclAddr (s : State) (a : Word) : (s.setPc a).exclAddr = s.exclAddr := rfl
@[simp] theorem State.setPc_openOutstanding (s : State) (a : Word) : (s.setPc a).openOutstanding = s.openOutstanding := rfl
@[simp] theorem State.setPc_openAddr (s : State) (a : Word) : (s.setPc a).openAddr = s.openAddr := rfl
@[simp] theorem State.setPc_cop (s : State) (a : Word) : (s.setPc a).cop = s.cop := rfl
@[simp] theorem State.setPc_cp15c1 (s : State) (a : Word) : (s.setPc a).cp15c1 = s.cp15c1 := rfl
@[simp] theorem State.setPc_hivecs (s : State) (a : Word) : (s.setPc a).hivecs = s.hivecs := rfl
@[simp] theorem State.setPc_je (s : State) (a : Word) : (s.setPc a).je = s.je := rfl
@[simp] theorem State.setPc_satSetsQ (s : State) (a : Word) : (s.setPc a).satSetsQ = s.satSetsQ := rfl
@[simp] theorem State.setPc_irqPending (s : State) (a : Word) : (s.setPc a).irqPending = s.irqPending := rfl
@[simp] theorem State.setPc_fiqPending (s : State) (a : Word) : (s.setPc a).fiqPending = s.fiqPending := rfl
@[simp] theorem State.setPc_resetPending (s : State) (a : Word) : (s.setPc a).resetPending = s.resetPending := rfl
@[simp] theorem State.setPc_aborts (s : State) (a : Word) : (s.setPc a).aborts = s.aborts := rfl
@[simp] theorem State.setPc_attrs (s : State) (a : Word) : (s.setPc a).attrs = s.attrs := rfl
@[simp] theorem State.setPc_mem (s : State) (a : Word) : (s.setPc a).mem = s.mem := rfl
@[simp] theorem State.setPc_freeCount (s : State) (a : Word) : (s.setPc a).freeCount = s.freeCount := rfl

@[simp] theorem State.setByte_regs (s : State) (a : Word) (v : Byte) : (s.setByte a v).regs = s.regs := rfl
@[simp] theorem State.setByte_pc (s : State) (a : Word) (v : Byte) : (s.setByte a v).pc = s.pc := rfl
@[simp] theorem State.setByte_cpsr (s : State) (a : Word) (v : Byte) : (s.setByte a v).cpsr = s.cpsr := rfl
@[simp] theorem State.setByte_spsr (s : State) (a : Word) (v : Byte) : (s.setByte a v).spsr = s.spsr := rfl
@[simp] theorem State.setByte_exclOutstanding (s : State) (a : Word) (v : Byte) : (s.setByte a v).exclOutstanding = s.exclOutstanding :=
  rfl
@[simp] theorem State.setByte_exclAddr (s : State) (a : Word) (v : Byte) : (s.setByte a v).exclAddr = s.exclAddr :=
  rfl
@[simp] theorem State.setByte_openOutstanding (s : State) (a : Word) (v : Byte) : (s.setByte a v).openOutstanding = s.openOutstanding :=
  rfl
@[simp] theorem State.setByte_openAddr (s : State) (a : Word) (v : Byte) : (s.setByte a v).openAddr = s.openAddr :=
  rfl
@[simp] theorem State.setByte_cop (s : State) (a : Word) (v : Byte) : (s.setByte a v).cop = s.cop := rfl
@[simp] theorem State.setByte_cp15c1 (s : State) (a : Word) (v : Byte) : (s.setByte a v).cp15c1 = s.cp15c1 := rfl
@[simp] theorem State.setByte_hivecs (s : State) (a : Word) (v : Byte) : (s.setByte a v).hivecs = s.hivecs := rfl
@[simp] theorem State.setByte_je (s : State) (a : Word) (v : Byte) : (s.setByte a v).je = s.je := rfl
@[simp] theorem State.setByte_satSetsQ (s : State) (a : Word) (v : Byte) : (s.setByte a v).satSetsQ = s.satSetsQ :=
  rfl
@[simp] theorem State.setByte_irqPending (s : State) (a : Word) (v : Byte) : (s.setByte a v).irqPending = s.irqPending :=
  rfl
@[simp] theorem State.setByte_fiqPending (s : State) (a : Word) (v : Byte) : (s.setByte a v).fiqPending = s.fiqPending :=
  rfl
@[simp] theorem State.setByte_resetPending (s : State) (a : Word) (v : Byte) : (s.setByte a v).resetPending = s.resetPending :=
  rfl
@[simp] theorem State.setByte_aborts (s : State) (a : Word) (v : Byte) : (s.setByte a v).aborts = s.aborts := rfl
@[simp] theorem State.setByte_attrs (s : State) (a : Word) (v : Byte) : (s.setByte a v).attrs = s.attrs := rfl
@[simp] theorem State.setByte_mem (s : State) (a : Word) (v : Byte) : (s.setByte a v).mem = s.mem.write a.toNat v :=
  rfl
@[simp] theorem State.setByte_freeCount (s : State) (a : Word) (v : Byte) : (s.setByte a v).freeCount = s.freeCount :=
  rfl

@[simp] theorem State.setCpRegs_regs (s : State) (p : RegNum) (r : CpRegs) : (s.setCpRegs p r).regs = s.regs := rfl
@[simp] theorem State.setCpRegs_pc (s : State) (p : RegNum) (r : CpRegs) : (s.setCpRegs p r).pc = s.pc := rfl
@[simp] theorem State.setCpRegs_cpsr (s : State) (p : RegNum) (r : CpRegs) : (s.setCpRegs p r).cpsr = s.cpsr := rfl
@[simp] theorem State.setCpRegs_spsr (s : State) (p : RegNum) (r : CpRegs) : (s.setCpRegs p r).spsr = s.spsr := rfl
@[simp] theorem State.setCpRegs_exclOutstanding (s : State) (p : RegNum) (r : CpRegs) : (s.setCpRegs p r).exclOutstanding = s.exclOutstanding :=
  rfl
@[simp] theorem State.setCpRegs_exclAddr (s : State) (p : RegNum) (r : CpRegs) : (s.setCpRegs p r).exclAddr = s.exclAddr :=
  rfl
@[simp] theorem State.setCpRegs_openOutstanding (s : State) (p : RegNum) (r : CpRegs) : (s.setCpRegs p r).openOutstanding = s.openOutstanding :=
  rfl
@[simp] theorem State.setCpRegs_openAddr (s : State) (p : RegNum) (r : CpRegs) : (s.setCpRegs p r).openAddr = s.openAddr :=
  rfl
@[simp] theorem State.setCpRegs_cop (s : State) (p : RegNum) (r : CpRegs) : (s.setCpRegs p r).cop = s.cop.set p.val { s.cop[p.val] with regs := r } :=
  rfl
@[simp] theorem State.setCpRegs_cp15c1 (s : State) (p : RegNum) (r : CpRegs) : (s.setCpRegs p r).cp15c1 = s.cp15c1 :=
  rfl
@[simp] theorem State.setCpRegs_hivecs (s : State) (p : RegNum) (r : CpRegs) : (s.setCpRegs p r).hivecs = s.hivecs :=
  rfl
@[simp] theorem State.setCpRegs_je (s : State) (p : RegNum) (r : CpRegs) : (s.setCpRegs p r).je = s.je := rfl
@[simp] theorem State.setCpRegs_satSetsQ (s : State) (p : RegNum) (r : CpRegs) : (s.setCpRegs p r).satSetsQ = s.satSetsQ :=
  rfl
@[simp] theorem State.setCpRegs_irqPending (s : State) (p : RegNum) (r : CpRegs) : (s.setCpRegs p r).irqPending = s.irqPending :=
  rfl
@[simp] theorem State.setCpRegs_fiqPending (s : State) (p : RegNum) (r : CpRegs) : (s.setCpRegs p r).fiqPending = s.fiqPending :=
  rfl
@[simp] theorem State.setCpRegs_resetPending (s : State) (p : RegNum) (r : CpRegs) : (s.setCpRegs p r).resetPending = s.resetPending :=
  rfl
@[simp] theorem State.setCpRegs_aborts (s : State) (p : RegNum) (r : CpRegs) : (s.setCpRegs p r).aborts = s.aborts :=
  rfl
@[simp] theorem State.setCpRegs_attrs (s : State) (p : RegNum) (r : CpRegs) : (s.setCpRegs p r).attrs = s.attrs := rfl
@[simp] theorem State.setCpRegs_mem (s : State) (p : RegNum) (r : CpRegs) : (s.setCpRegs p r).mem = s.mem := rfl
@[simp] theorem State.setCpRegs_freeCount (s : State) (p : RegNum) (r : CpRegs) : (s.setCpRegs p r).freeCount = s.freeCount :=
  rfl

@[simp] theorem State.drawWord_regs (s : State) : s.drawWord.2.regs = s.regs := rfl
@[simp] theorem State.drawWord_pc (s : State) : s.drawWord.2.pc = s.pc := rfl
@[simp] theorem State.drawWord_cpsr (s : State) : s.drawWord.2.cpsr = s.cpsr := rfl
@[simp] theorem State.drawWord_spsr (s : State) : s.drawWord.2.spsr = s.spsr := rfl
@[simp] theorem State.drawWord_exclOutstanding (s : State) : s.drawWord.2.exclOutstanding = s.exclOutstanding := rfl
@[simp] theorem State.drawWord_exclAddr (s : State) : s.drawWord.2.exclAddr = s.exclAddr := rfl
@[simp] theorem State.drawWord_openOutstanding (s : State) : s.drawWord.2.openOutstanding = s.openOutstanding := rfl
@[simp] theorem State.drawWord_openAddr (s : State) : s.drawWord.2.openAddr = s.openAddr := rfl
@[simp] theorem State.drawWord_cop (s : State) : s.drawWord.2.cop = s.cop := rfl
@[simp] theorem State.drawWord_cp15c1 (s : State) : s.drawWord.2.cp15c1 = s.cp15c1 := rfl
@[simp] theorem State.drawWord_hivecs (s : State) : s.drawWord.2.hivecs = s.hivecs := rfl
@[simp] theorem State.drawWord_je (s : State) : s.drawWord.2.je = s.je := rfl
@[simp] theorem State.drawWord_satSetsQ (s : State) : s.drawWord.2.satSetsQ = s.satSetsQ := rfl
@[simp] theorem State.drawWord_irqPending (s : State) : s.drawWord.2.irqPending = s.irqPending := rfl
@[simp] theorem State.drawWord_fiqPending (s : State) : s.drawWord.2.fiqPending = s.fiqPending := rfl
@[simp] theorem State.drawWord_resetPending (s : State) : s.drawWord.2.resetPending = s.resetPending := rfl
@[simp] theorem State.drawWord_aborts (s : State) : s.drawWord.2.aborts = s.aborts := rfl
@[simp] theorem State.drawWord_attrs (s : State) : s.drawWord.2.attrs = s.attrs := rfl
@[simp] theorem State.drawWord_mem (s : State) : s.drawWord.2.mem = s.mem := rfl
@[simp] theorem State.drawWord_freeCount (s : State) : s.drawWord.2.freeCount = s.freeCount + 1 := rfl

@[simp] theorem State.drawBit_regs (s : State) : s.drawBit.2.regs = s.regs := rfl
@[simp] theorem State.drawBit_pc (s : State) : s.drawBit.2.pc = s.pc := rfl
@[simp] theorem State.drawBit_cpsr (s : State) : s.drawBit.2.cpsr = s.cpsr := rfl
@[simp] theorem State.drawBit_spsr (s : State) : s.drawBit.2.spsr = s.spsr := rfl
@[simp] theorem State.drawBit_exclOutstanding (s : State) : s.drawBit.2.exclOutstanding = s.exclOutstanding := rfl
@[simp] theorem State.drawBit_exclAddr (s : State) : s.drawBit.2.exclAddr = s.exclAddr := rfl
@[simp] theorem State.drawBit_openOutstanding (s : State) : s.drawBit.2.openOutstanding = s.openOutstanding := rfl
@[simp] theorem State.drawBit_openAddr (s : State) : s.drawBit.2.openAddr = s.openAddr := rfl
@[simp] theorem State.drawBit_cop (s : State) : s.drawBit.2.cop = s.cop := rfl
@[simp] theorem State.drawBit_cp15c1 (s : State) : s.drawBit.2.cp15c1 = s.cp15c1 := rfl
@[simp] theorem State.drawBit_hivecs (s : State) : s.drawBit.2.hivecs = s.hivecs := rfl
@[simp] theorem State.drawBit_je (s : State) : s.drawBit.2.je = s.je := rfl
@[simp] theorem State.drawBit_satSetsQ (s : State) : s.drawBit.2.satSetsQ = s.satSetsQ := rfl
@[simp] theorem State.drawBit_irqPending (s : State) : s.drawBit.2.irqPending = s.irqPending := rfl
@[simp] theorem State.drawBit_fiqPending (s : State) : s.drawBit.2.fiqPending = s.fiqPending := rfl
@[simp] theorem State.drawBit_resetPending (s : State) : s.drawBit.2.resetPending = s.resetPending := rfl
@[simp] theorem State.drawBit_aborts (s : State) : s.drawBit.2.aborts = s.aborts := rfl
@[simp] theorem State.drawBit_attrs (s : State) : s.drawBit.2.attrs = s.attrs := rfl
@[simp] theorem State.drawBit_mem (s : State) : s.drawBit.2.mem = s.mem := rfl
@[simp] theorem State.drawBit_freeCount (s : State) : s.drawBit.2.freeCount = s.freeCount + 1 := rfl

@[simp] theorem State.setRegIn_pc (s : State) (m : Option Mode) (i : RegNum) (v : Word) : (s.setRegIn m i v).pc = s.pc := by
  unfold State.setRegIn; split <;> rfl
@[simp] theorem State.setRegIn_cpsr (s : State) (m : Option Mode) (i : RegNum) (v : Word) : (s.setRegIn m i v).cpsr = s.cpsr := by
  unfold State.setRegIn; split <;> rfl
@[simp] theorem State.setRegIn_spsr (s : State) (m : Option Mode) (i : RegNum) (v : Word) : (s.setRegIn m i v).spsr = s.spsr := by
  unfold State.setRegIn; split <;> rfl
@[simp] theorem State.setRegIn_exclOutstanding (s : State) (m : Option Mode) (i : RegNum) (v : Word) : (s.setRegIn m i v).exclOutstanding = s.exclOutstanding := by
  unfold State.setRegIn; split <;> rfl
@[simp] theorem State.setRegIn_exclAddr (s : State) (m : Option Mode) (i : RegNum) (v : Word) : (s.setRegIn m i v).exclAddr = s.exclAddr := by
  unfold State.setRegIn; split <;> rfl
@[simp] theorem State.setRegIn_openOutstanding (s : State) (m : Option Mode) (i : RegNum) (v : Word) : (s.setRegIn m i v).openOutstanding = s.openOutstanding := by
  unfold State.setRegIn; split <;> rfl
@[simp] theorem State.setRegIn_openAddr (s : State) (m : Option Mode) (i : RegNum) (v : Word) : (s.setRegIn m i v).openAddr = s.openAddr := by
  unfold State.setRegIn; split <;> rfl
@[simp] theorem State.setRegIn_cop (s : State) (m : Option Mode) (i : RegNum) (v : Word) : (s.setRegIn m i v).cop = s.cop := by
  unfold State.setRegIn; split <;> rfl
@[simp] theorem State.setRegIn_cp15c1 (s : State) (m : Option Mode) (i : RegNum) (v : Word) : (s.setRegIn m i v).cp15c1 = s.cp15c1 := by
  unfold State.setRegIn; split <;> rfl
@[simp] theorem State.setRegIn_hivecs (s : State) (m : Option Mode) (i : RegNum) (v : Word) : (s.setRegIn m i v).hivecs = s.hivecs := by
  unfold State.setRegIn; split <;> rfl
@[simp] theorem State.setRegIn_je (s : State) (m : Option Mode) (i : RegNum) (v : Word) : (s.setRegIn m i v).je = s.je := by
  unfold State.setRegIn; split <;> rfl
@[simp] theorem State.setRegIn_satSetsQ (s : State) (m : Option Mode) (i : RegNum) (v : Word) : (s.setRegIn m i v).satSetsQ = s.satSetsQ := by
  unfold State.setRegIn; split <;> rfl
@[simp] theorem State.setRegIn_irqPending (s : State) (m : Option Mode) (i : RegNum) (v : Word) : (s.setRegIn m i v).irqPending = s.irqPending := by
  unfold State.setRegIn; split <;> rfl
@[simp] theorem State.setRegIn_fiqPending (s : State) (m : Option Mode) (i : RegNum) (v : Word) : (s.setRegIn m i v).fiqPending = s.fiqPending := by
  unfold State.setRegIn; split <;> rfl
@[simp] theorem State.setRegIn_resetPending (s : State) (m : Option Mode) (i : RegNum) (v : Word) : (s.setRegIn m i v).resetPending = s.resetPending := by
  unfold State.setRegIn; split <;> rfl
@[simp] theorem State.setRegIn_aborts (s : State) (m : Option Mode) (i : RegNum) (v : Word) : (s.setRegIn m i v).aborts = s.aborts := by
  unfold State.setRegIn; split <;> rfl
@[simp] theorem State.setRegIn_attrs (s : State) (m : Option Mode) (i : RegNum) (v : Word) : (s.setRegIn m i v).attrs = s.attrs := by
  unfold State.setRegIn; split <;> rfl
@[simp] theorem State.setRegIn_mem (s : State) (m : Option Mode) (i : RegNum) (v : Word) : (s.setRegIn m i v).mem = s.mem := by
  unfold State.setRegIn; split <;> rfl
@[simp] theorem State.setRegIn_freeCount (s : State) (m : Option Mode) (i : RegNum) (v : Word) : (s.setRegIn m i v).freeCount = s.freeCount := by
  unfold State.setRegIn; split <;> rfl

@[simp] theorem State.markExclusive_regs (s : State) (a : Word) : (s.markExclusive a).regs = s.regs := by
  unfold State.markExclusive; split <;> rfl
@[simp] theorem State.markExclusive_pc (s : State) (a : Word) : (s.markExclusive a).pc = s.pc := by
  unfold State.markExclusive; split <;> rfl
@[simp] theorem State.markExclusive_cpsr (s : State) (a : Word) : (s.markExclusive a).cpsr = s.cpsr := by
  unfold State.markExclusive; split <;> rfl
@[simp] theorem State.markExclusive_spsr (s : State) (a : Word) : (s.markExclusive a).spsr = s.spsr := by
  unfold State.markExclusive; split <;> rfl
@[simp] theorem State.markExclusive_cop (s : State) (a : Word) : (s.markExclusive a).cop = s.cop := by
  unfold State.markExclusive; split <;> rfl
@[simp] theorem State.markExclusive_cp15c1 (s : State) (a : Word) : (s.markExclusive a).cp15c1 = s.cp15c1 := by
  unfold State.markExclusive; split <;> rfl
@[simp] theorem State.markExclusive_hivecs (s : State) (a : Word) : (s.markExclusive a).hivecs = s.hivecs := by
  unfold State.markExclusive; split <;> rfl
@[simp] theorem State.markExclusive_je (s : State) (a : Word) : (s.markExclusive a).je = s.je := by
  unfold State.markExclusive; split <;> rfl
@[simp] theorem State.markExclusive_satSetsQ (s : State) (a : Word) : (s.markExclusive a).satSetsQ = s.satSetsQ := by
  unfold State.markExclusive; split <;> rfl
@[simp] theorem State.markExclusive_irqPending (s : State) (a : Word) : (s.markExclusive a).irqPending = s.irqPending := by
  unfold State.markExclusive; split <;> rfl
@[simp] theorem State.markExclusive_fiqPending (s : State) (a : Word) : (s.markExclusive a).fiqPending = s.fiqPending := by
  unfold State.markExclusive; split <;> rfl
@[simp] theorem State.markExclusive_resetPending (s : State) (a : Word) : (s.markExclusive a).resetPending = s.resetPending := by
  unfold State.markExclusive; split <;> rfl
@[simp] theorem State.markExclusive_aborts (s : State) (a : Word) : (s.markExclusive a).aborts = s.aborts := by
  unfold State.markExclusive; split <;> rfl
@[simp] theorem State.markExclusive_attrs (s : State) (a : Word) : (s.markExclusive a).attrs = s.attrs := by
  unfold State.markExclusive; split <;> rfl
@[simp] theorem State.markExclusive_mem (s : State) (a : Word) : (s.markExclusive a).mem = s.mem := by
  unfold State.markExclusive; split <;> rfl
@[simp] theorem State.markExclusive_freeCount (s : State) (a : Word) : (s.markExclusive a).freeCount = s.freeCount := by
  unfold State.markExclusive; split <;> rfl

@[simp] theorem State.openMonitor_regs (s : State) : s.openMonitor.regs = s.regs := rfl
@[simp] theorem State.openMonitor_pc (s : State) : s.openMonitor.pc = s.pc := rfl
@[simp] theorem State.openMonitor_cpsr (s : State) : s.openMonitor.cpsr = s.cpsr := rfl
@[simp] theorem State.openMonitor_spsr (s : State) : s.openMonitor.spsr = s.spsr := rfl
@[simp] theorem State.openMonitor_exclOutstanding (s : State) : s.openMonitor.exclOutstanding = s.exclOutstanding := rfl
@[simp] theorem State.openMonitor_exclAddr (s : State) : s.openMonitor.exclAddr = s.exclAddr := rfl
@[simp] theorem State.openMonitor_cop (s : State) : s.openMonitor.cop = s.cop := rfl
@[simp] theorem State.openMonitor_cp15c1 (s : State) : s.openMonitor.cp15c1 = s.cp15c1 := rfl
@[simp] theorem State.openMonitor_hivecs (s : State) : s.openMonitor.hivecs = s.hivecs := rfl
@[simp] theorem State.openMonitor_je (s : State) : s.openMonitor.je = s.je := rfl
@[simp] theorem State.openMonitor_satSetsQ (s : State) : s.openMonitor.satSetsQ = s.satSetsQ := rfl
@[simp] theorem State.openMonitor_irqPending (s : State) : s.openMonitor.irqPending = s.irqPending := rfl
@[simp] theorem State.openMonitor_fiqPending (s : State) : s.openMonitor.fiqPending = s.fiqPending := rfl
@[simp] theorem State.openMonitor_resetPending (s : State) : s.openMonitor.resetPending = s.resetPending := rfl
@[simp] theorem State.openMonitor_aborts (s : State) : s.openMonitor.aborts = s.aborts := rfl
@[simp] theorem State.openMonitor_attrs (s : State) : s.openMonitor.attrs = s.attrs := rfl
@[simp] theorem State.openMonitor_mem (s : State) : s.openMonitor.mem = s.mem := rfl
@[simp] theorem State.openMonitor_freeCount (s : State) : s.openMonitor.freeCount = s.freeCount := rfl
@[simp] theorem State.openMonitor_openOutstanding (s : State) : s.openMonitor.openOutstanding = true := rfl
@[simp] theorem State.openMonitor_openAddr (s : State) : s.openMonitor.openAddr = true := rfl

@[simp] theorem State.clearExclusive_openOutstanding (s : State) (a : Word) : (s.clearExclusive a).openOutstanding = s.openOutstanding := by
  unfold State.clearExclusive; split <;> rfl
@[simp] theorem State.clearExclusive_openAddr (s : State) (a : Word) : (s.clearExclusive a).openAddr = s.openAddr := by
  unfold State.clearExclusive; split <;> rfl
@[simp] theorem State.clearExclusive_regs (s : State) (a : Word) : (s.clearExclusive a).regs = s.regs := by
  unfold State.clearExclusive; split <;> rfl
@[simp] theorem State.clearExclusive_pc (s : State) (a : Word) : (s.clearExclusive a).pc = s.pc := by
  unfold State.clearExclusive; split <;> rfl
@[simp] theorem State.clearExclusive_cpsr (s : State) (a : Word) : (s.clearExclusive a).cpsr = s.cpsr := by
  unfold State.clearExclusive; split <;> rfl
@[simp] theorem State.clearExclusive_spsr (s : State) (a : Word) : (s.clearExclusive a).spsr = s.spsr := by
  unfold State.clearExclusive; split <;> rfl
@[simp] theorem State.clearExclusive_exclOutstanding (s : State) (a : Word) : (s.clearExclusive a).exclOutstanding = none := by
  unfold State.clearExclusive; split <;> rfl
@[simp] theorem State.clearExclusive_cop (s : State) (a : Word) : (s.clearExclusive a).cop = s.cop := by
  unfold State.clearExclusive; split <;> rfl
@[simp] theorem State.clearExclusive_cp15c1 (s : State) (a : Word) : (s.clearExclusive a).cp15c1 = s.cp15c1 := by
  unfold State.clearExclusive; split <;> rfl
@[simp] theorem State.clearExclusive_hivecs (s : State) (a : Word) : (s.clearExclusive a).hivecs = s.hivecs := by
  unfold State.clearExclusive; split <;> rfl
@[simp] theorem State.clearExclusive_je (s : State) (a : Word) : (s.clearExclusive a).je = s.je := by
  unfold State.clearExclusive; split <;> rfl
@[simp] theorem State.clearExclusive_satSetsQ (s : State) (a : Word) : (s.clearExclusive a).satSetsQ = s.satSetsQ := by
  unfold State.clearExclusive; split <;> rfl
@[simp] theorem State.clearExclusive_irqPending (s : State) (a : Word) : (s.clearExclusive a).irqPending = s.irqPending := by
  unfold State.clearExclusive; split <;> rfl
@[simp] theorem State.clearExclusive_fiqPending (s : State) (a : Word) : (s.clearExclusive a).fiqPending = s.fiqPending := by
  unfold State.clearExclusive; split <;> rfl
@[simp] theorem State.clearExclusive_resetPending (s : State) (a : Word) : (s.clearExclusive a).resetPending = s.resetPending := by
  unfold State.clearExclusive; split <;> rfl
@[simp] theorem State.clearExclusive_aborts (s : State) (a : Word) : (s.clearExclusive a).aborts = s.aborts := by
  unfold State.clearExclusive; split <;> rfl
@[simp] theorem State.clearExclusive_attrs (s : State) (a : Word) : (s.clearExclusive a).attrs = s.attrs := by
  unfold State.clearExclusive; split <;> rfl
@[simp] theorem State.clearExclusive_mem (s : State) (a : Word) : (s.clearExclusive a).mem = s.mem := by
  unfold State.clearExclusive; split <;> rfl
@[simp] theorem State.clearExclusive_freeCount (s : State) (a : Word) : (s.clearExclusive a).freeCount = s.freeCount := by
  unfold State.clearExclusive; split <;> rfl

/-! ## The named setters as a write of one field -/

@[simp] theorem State.setReg_eq (s : State) (i : RegNum) (v : Word) : s.setReg i v = s.setRegIn s.mode? i v := rfl
@[simp] theorem State.setLreg_eq (s : State) (i : LowReg) (v : Word) :
    s.setLreg i v = s.setRegIn s.mode? (low i) v := rfl
@[simp] theorem State.reg_eq (s : State) (i : RegNum) : s.reg i = s.regIn s.mode? i := rfl
@[simp] theorem State.lreg_eq (s : State) (i : LowReg) : s.lreg i = s.regIn s.mode? (low i) := rfl
@[simp] theorem State.setNZ_eq (s : State) (r : Word) : s.setNZ r = s.setCpsr (psrNZ s.cpsr r) := rfl
@[simp] theorem State.setNZC_eq (s : State) (r : Word) (c : Bool) :
    s.setNZC r c = s.setCpsr (setBit (psrNZ s.cpsr r) 29 c) := rfl
@[simp] theorem State.setNZCV_eq (s : State) (r : Word) (c v : Bool) :
    s.setNZCV r c v = s.setCpsr (setBit (setBit (psrNZ s.cpsr r) 29 c) 28 v) := rfl
@[simp] theorem State.setGe_eq (s : State) (g : BitVec 4) :
    s.setGe g = s.setCpsr (maskWrite s.cpsr (g.setWidth 32 <<< 16) 0x000F0000) := rfl
@[simp] theorem State.setFlagsFrom_eq (s : State) (v : Word) :
    s.setFlagsFrom v = s.setCpsr (maskWrite s.cpsr v 0xF0000000) := rfl
@[simp] theorem State.setEndian_eq (s : State) (e : Bool) : s.setEndian e = s.setCpsr (setBit s.cpsr 9 e) := rfl
@[simp] theorem State.setModeField_eq (s : State) (m : BitVec 5) :
    s.setModeField m = s.setCpsr (maskWrite s.cpsr (m.setWidth 32) 0x1F) := rfl
theorem State.orQ_eq (s : State) (b : Bool) :
    s.orQ b = s.setCpsr (if b then setBit s.cpsr 27 true else s.cpsr) := by
  cases b <;> rfl

/-! ## Registers and their banks -/

@[simp] theorem State.setCpsr_regIn (s : State) (w : Word) (m : Option Mode) (i : RegNum) (h : i ≠ 15) :
    (s.setCpsr w).regIn m i = s.regIn m i := by
  have hv : i.val ≠ 15 := fun e => h (Fin.ext e)
  simp [State.regIn, bank, hv]

@[simp] theorem State.setPc_regIn (s : State) (a : Word) (m : Option Mode) (i : RegNum) (h : i ≠ 15) :
    (s.setPc a).regIn m i = s.regIn m i := by
  have hv : i.val ≠ 15 := fun e => h (Fin.ext e)
  simp [State.regIn, bank, hv]

/-- One mode sees two registers in two places (R44). -/
theorem bank_injective (m : Option Mode) (i j : RegNum) (h : bank m i = bank m j) : i = j := by
  revert h
  rcases m with _ | m
  · revert i j; decide
  · cases m <;> revert i j <;> decide

theorem bank_eq_none (m : Option Mode) (i : RegNum) : bank m i = none ↔ i = 15 := by
  unfold bank
  split
  · simp_all [Fin.ext_iff]
  · simp_all [Fin.ext_iff]

theorem bank_low (m : Option Mode) (i : LowReg) : bank m (low i) = some (Fin.ofNat 30 i.val) := by
  rcases m with _ | m
  · revert i; decide
  · cases m <;> revert i <;> decide

/-- What a register write does to the copies (R21, R44). -/
theorem State.setRegIn_regs (s : State) (m : Option Mode) (i : RegNum) (v : Word) :
    (s.setRegIn m i v).regs = match bank m i with | some k => s.regs.set k.val v | none => s.regs := by
  unfold State.setRegIn; split <;> simp_all

/-- A copy that is not written keeps its value. -/
theorem State.setRegIn_regs_ne (s : State) (m : Option Mode) (i : RegNum) (v : Word) (k : Fin 30)
    (h : bank m i ≠ some k) : (s.setRegIn m i v).regs[k.val] = s.regs[k.val] := by
  rw [State.setRegIn_regs]
  split
  · rename_i j hj
    have : j.val ≠ k.val := fun e => h (by rw [hj]; exact congrArg some (Fin.ext e))
    simp [this]
  · rfl

/-- A register reads what was written to it, and pc is not written (R21). -/
theorem State.regIn_setRegIn_self (s : State) (m : Option Mode) (i : RegNum) (v : Word) (h : i ≠ 15) :
    (s.setRegIn m i v).regIn m i = v := by
  have hb : bank m i ≠ none := fun e => h ((bank_eq_none m i).mp e)
  unfold State.regIn
  rw [State.setRegIn_regs]
  split
  · simp_all
  · contradiction

/-- Another register of the same mode keeps its value. -/
theorem State.regIn_setRegIn_ne (s : State) (m : Option Mode) (i j : RegNum) (v : Word) (h : i ≠ j) :
    (s.setRegIn m i v).regIn m j = s.regIn m j := by
  unfold State.regIn
  split
  · rename_i k hk
    exact s.setRegIn_regs_ne m i v k fun e => h (bank_injective m i j (e.trans hk.symm))
  · simp [State.pcRead, State.thumb]

end Sys2Proof.Machine
end

