-- ==== Sys2Proof/Laws/Memory.lean ====
section
/-! SUPPORT. Memory: a read after a write, and the canonical form kept by every operation (spec/20_memory.md R90 to
R97). -/

namespace Sys2Proof.Machine

/-! ## One byte -/

theorem Memory.read_erase (m : Memory) (a b : Nat) :
    Memory.read (Memory.erase m a) b = if b = a then unlistedByte else Memory.read m b := by
  induction m with
  | nil => simp [Memory.erase, Memory.read]
  | cons cell m ih =>
    obtain ⟨k, v⟩ := cell
    simp only [Memory.erase, List.filter_cons] at ih ⊢
    by_cases hk : k = a
    · subst hk
      simp only [bne_self_eq_false, Bool.false_eq_true, if_false, ih, Memory.read]
      by_cases hb : b = k
      · simp [hb]
      · simp [hb, Ne.symm hb]
    · simp only [bne_iff_ne, ne_eq, hk, not_false_eq_true, if_true, Memory.read, ih]
      by_cases hb : k = b
      · have : b ≠ a := fun e => hk (hb.trans e)
        simp [hb, this]
      · simp [hb]

theorem Memory.mem_erase (m : Memory) (a : Nat) (c : Host.Cell) (h : c ∈ Memory.erase m a) : c ∈ m ∧ c.1 ≠ a := by
  simpa [Memory.erase] using h

theorem Memory.read_insert (m : Memory) (a b : Nat) (v : Byte) (h : ∀ c ∈ m, c.1 ≠ a) :
    Memory.read (Memory.insert m a v) b = if b = a then v else Memory.read m b := by
  induction m with
  | nil => simp [Memory.insert, Memory.read, eq_comm]
  | cons cell m ih =>
    obtain ⟨k, w⟩ := cell
    have hk : k ≠ a := h (k, w) (by simp)
    unfold Memory.insert
    split
    · simp [Memory.read, eq_comm]
    · rw [Memory.read, ih fun c hc => h c (by simp [hc]), Memory.read]
      by_cases hb : k = b
      · simp [hb, hb ▸ hk]
      · simp [hb]

/-- Reading any byte after one byte is written. -/
theorem Memory.read_write (m : Memory) (a b : Nat) (v : Byte) :
    Memory.read (Memory.write m a v) b = if b = a then v else Memory.read m b := by
  unfold Memory.write
  split
  · rename_i h; rw [Memory.read_erase, h]
  · rw [Memory.read_insert _ _ _ _ fun c hc => (Memory.mem_erase m a c hc).2, Memory.read_erase]
    split <;> rfl

/-! ## The canonical form -/

theorem Memory.wf_cons (k : Nat) (v : Byte) (m : Memory) :
    Memory.wf ((k, v) :: m) = true ↔
      k < 2 ^ 32 ∧ v ≠ unlistedByte ∧ (∀ c ∈ m, k < c.1) ∧ Memory.wf m = true := by
  simp [Memory.wf, and_assoc]

theorem Memory.wf_erase (m : Memory) (a : Nat) (h : m.wf = true) : (Memory.erase m a).wf = true := by
  induction m with
  | nil => simp [Memory.erase, Memory.wf]
  | cons cell m ih =>
    obtain ⟨k, v⟩ := cell
    obtain ⟨hk, hv, hm, hw⟩ := (Memory.wf_cons k v m).mp h
    simp only [Memory.erase, List.filter_cons] at ih ⊢
    split
    · exact (Memory.wf_cons k v _).mpr ⟨hk, hv, fun c hc => hm c (Memory.mem_erase m a c hc).1, ih hw⟩
    · exact ih hw

theorem Memory.mem_insert (m : Memory) (a : Nat) (v : Byte) (c : Host.Cell) (h : c ∈ Memory.insert m a v) :
    c = (a, v) ∨ c ∈ m := by
  induction m with
  | nil => simpa [Memory.insert] using h
  | cons cell m ih =>
    obtain ⟨k, w⟩ := cell
    unfold Memory.insert at h
    split at h
    · simpa using h
    · rcases List.mem_cons.mp h with h | h
      · exact .inr (by simp [h])
      · exact (ih h).imp_right (List.mem_cons_of_mem _)

theorem Memory.wf_insert (m : Memory) (a : Nat) (v : Byte) (h : m.wf = true) (ha : a < 2 ^ 32) (hv : v ≠ unlistedByte)
    (hm : ∀ c ∈ m, c.1 ≠ a) : (Memory.insert m a v).wf = true := by
  induction m with
  | nil => exact (Memory.wf_cons a v []).mpr ⟨ha, hv, by simp, h⟩
  | cons cell m ih =>
    obtain ⟨k, w⟩ := cell
    obtain ⟨hk, hw, hlt, hwf⟩ := (Memory.wf_cons k w m).mp h
    have hka : k ≠ a := hm (k, w) (by simp)
    unfold Memory.insert
    split
    · rename_i hlt'
      refine (Memory.wf_cons a v _).mpr ⟨ha, hv, fun c hc => ?_, h⟩
      rcases List.mem_cons.mp hc with hc | hc
      · simpa [hc] using hlt'
      · exact hlt'.trans (hlt c hc)
    · refine (Memory.wf_cons k w _).mpr ⟨hk, hw, fun c hc => ?_, ih hwf fun c hc => hm c (by simp [hc])⟩
      rcases Memory.mem_insert m a v c hc with hc | hc
      · rw [hc]; simp only; omega
      · exact hlt c hc

/-- A write keeps the canonical form. -/
theorem Memory.wf_write (m : Memory) (a : Nat) (v : Byte) (h : m.wf = true) (ha : a < 2 ^ 32) :
    (Memory.write m a v).wf = true := by
  unfold Memory.write
  split
  · exact Memory.wf_erase m a h
  · exact Memory.wf_insert _ a v (Memory.wf_erase m a h) ha (by assumption) fun c hc => (Memory.mem_erase m a c hc).2

/-- The memory that holds a list of bytes is in canonical form. -/
theorem Memory.wf_ofCells (cells : List (Nat × Byte)) : (Memory.ofCells cells).wf = true := by
  induction cells with
  | nil => rfl
  | cons c cells ih => exact Memory.wf_write _ _ _ ih (Nat.mod_lt _ (by decide))

theorem reset_memory_wf : Memory.wf State.reset.mem = true := rfl

/-! ## The state's bytes -/

theorem State.byte_setByte (s : State) (a b : Word) (v : Byte) :
    (s.setByte a v).byte b = if b = a then v else s.byte b := by
  simp [State.byte, Memory.read_write, BitVec.toNat_inj]

theorem State.setByte_wf (s : State) (a : Word) (v : Byte) (h : s.mem.wf = true) : (s.setByte a v).mem.wf = true :=
  Memory.wf_write s.mem a.toNat v h a.isLt

theorem State.setBytes_wf (s : State) (a : Word) (bs : List Byte) (h : s.mem.wf = true) :
    (s.setBytes a bs).mem.wf = true := by
  induction bs generalizing s a with
  | nil => exact h
  | cons b bs ih => exact ih _ _ (s.setByte_wf a b h)

/-- A store of bytes changes only memory. -/
theorem State.setBytes_eq (s : State) (a : Word) (bs : List Byte) :
    s.setBytes a bs = { s with mem := (s.setBytes a bs).mem } := by
  induction bs generalizing s a with
  | nil => rfl
  | cons b bs ih => rw [State.setBytes, ih]; rfl

/-- A byte outside the stored ones keeps its value. -/
theorem State.byte_setBytes_outside (s : State) (a b : Word) (bs : List Byte)
    (h : ∀ k < bs.length, b ≠ a + BitVec.ofNat 32 k) : (s.setBytes a bs).byte b = s.byte b := by
  induction bs generalizing s a with
  | nil => rfl
  | cons v bs ih =>
    rw [State.setBytes, ih]
    · have : b ≠ a := by simpa using h 0 (by simp)
      rw [State.byte_setByte, if_neg this]
    · intro k hk
      have := h (k + 1) (by simpa using hk)
      rwa [show a + 1 + BitVec.ofNat 32 k = a + BitVec.ofNat 32 (k + 1) by
        rw [BitVec.add_assoc]; congr 1; apply BitVec.eq_of_toNat_eq; simp [Nat.add_comm]]

/-- The bytes stored are the bytes read back, up to the whole address space. -/
theorem State.bytesAt_setBytes (s : State) (a : Word) (bs : List Byte) (h : bs.length ≤ 2 ^ 32) :
    (s.setBytes a bs).bytesAt a bs.length = bs := by
  induction bs generalizing s a with
  | nil => rfl
  | cons v bs ih =>
    simp only [List.length_cons] at h
    simp only [State.setBytes, List.length_cons, State.bytesAt]
    rw [ih _ _ (by omega)]
    congr 1
    rw [State.byte_setBytes_outside]
    · simp [State.byte_setByte]
    · intro k hk e
      have hlt : a.toNat < 2 ^ 32 := a.isLt
      have := congrArg BitVec.toNat e
      simp only [BitVec.toNat_add, BitVec.toNat_ofNat, show BitVec.toNat (1 : Word) = 1 from rfl] at this
      omega

end Sys2Proof.Machine
end

