-- ==== Sys2Proof/Laws/Ops.lean ====
section
/-! SUPPORT. One lemma for each shared operation, that says once what it answers, and when. -/

namespace Sys2Proof.Machine

/-! ## How a meaning ends -/

@[simp] theorem finish_ok (s : State) : finish (.ok s) = .next s := rfl
@[simp] theorem finish_raise (e : Exc) (s : State) : finish (raise e s) = .next (enter e s) := rfl
@[simp] theorem finish_unpredictable (f : Fault) : finish (unpredictable f) = .fault f := rfl
@[simp] theorem finish_refuse (r : Refusal) : finish (refuse r) = .refused r := rfl

/-- A meaning answers a next state by completing or by taking an exception. -/
theorem finish_eq_next {r : Res State} {t : State} (h : finish r = .next t) :
    r = .ok t ∨ ∃ e u, r = .error (.raise e u) ∧ t = enter e u := by
  match r, h with
  | .ok s, h => exact .inl (by simpa [finish] using h)
  | .error (.raise e u), h => exact .inr ⟨e, u, rfl, by simpa [finish, eq_comm] using h⟩

/-- Two steps in a row complete only if each does. -/
theorem Res.bind_ok {α β : Type} {x : Res α} {f : α → Res β} {b : β} (h : (x >>= f) = .ok b) :
    ∃ a, x = .ok a ∧ f a = .ok b := by
  cases x with
  | ok a => exact ⟨a, rfl, h⟩
  | error e => cases h

/-- Two steps in a row stop where the first or the second does. -/
theorem Res.bind_error {α β : Type} {x : Res α} {f : α → Res β} {e : Stop} (h : (x >>= f) = .error e) :
    x = .error e ∨ ∃ a, x = .ok a ∧ f a = .error e := by
  cases x with
  | ok a => exact .inr ⟨a, rfl, h⟩
  | error e' => exact .inl (by cases h; rfl)

@[simp] theorem unpredictableIf_false (f : Fault) : unpredictableIf false f = .ok () := rfl
@[simp] theorem unpredictableIf_true (f : Fault) : unpredictableIf true f = unpredictable f := rfl

/-- A restriction is met where the check completes. -/
theorem unpredictableIf_ok {b : Bool} {f : Fault} {u : Unit} (h : unpredictableIf b f = .ok u) : b = false := by
  cases b with
  | false => rfl
  | true => cases h

/-- A restriction stops only by its own name. -/
theorem unpredictableIf_error {b : Bool} {f : Fault} {e : Stop} (h : unpredictableIf b f = .error e) :
    b = true ∧ e = .fault f := by
  cases b with
  | false => cases h
  | true => exact ⟨rfl, by simpa [unpredictableIf, unpredictable, eq_comm] using h⟩

/-! ## The pc -/

/-- The pc advances where it does not cross the top of memory (R24, R91). -/
theorem State.advance_eq {s : State} {len : Nat} (h : s.pc.toNat + len < 2 ^ 32) :
    s.advance len = .ok (s.setPc (s.pc + BitVec.ofNat 32 len)) := by
  unfold State.advance; rw [if_neg (by omega)]

/-- An advance that answers moved only the pc. -/
theorem State.advance_ok {s t : State} {len : Nat} (h : s.advance len = .ok t) :
    s.pc.toNat + len < 2 ^ 32 ∧ t = s.setPc (s.pc + BitVec.ofNat 32 len) := by
  unfold State.advance at h
  split at h
  · cases h
  · exact ⟨by omega, by simpa [eq_comm] using h⟩

theorem State.conditional_passed {s : State} {c : Cond} {body : Res State} (h : s.passed c = true) :
    s.conditional c body = body := by simp [State.conditional, h]

theorem State.conditional_failed {s : State} {c : Cond} {body : Res State} (h : s.passed c = false) :
    s.conditional c body = s.advance 4 := by simp [State.conditional, h]

@[simp] theorem State.passed_al (s : State) : s.passed .al = true := rfl

theorem State.branchTo_thumb {s : State} (a : Word) (h : s.thumb = true) :
    s.branchTo a = .ok (s.setPc (a &&& 0xFFFFFFFE)) := by simp [State.branchTo, h]

theorem State.branchTo_arm {s : State} {a : Word} (h : s.thumb = false) (ha : a &&& 3 = 0) :
    s.branchTo a = .ok (s.setPc a) := by
  unfold State.branchTo; rw [if_neg (by simp [h]), if_pos ha]

theorem State.branchTo_unaligned {s : State} {a : Word} (h : s.thumb = false) (ha : a &&& 3 ≠ 0) :
    s.branchTo a = unpredictable .branchUnaligned := by
  unfold State.branchTo; rw [if_neg (by simp [h]), if_neg ha]

/-- A branch that answers moved only the pc, to an address that is aligned for the instruction set. -/
theorem State.branchTo_ok {s t : State} {a : Word} (h : s.branchTo a = .ok t) :
    ∃ p, t = s.setPc p ∧ if s.thumb then p = a &&& 0xFFFFFFFE else p = a ∧ a &&& 3 = 0 := by
  unfold State.branchTo at h
  split at h
  · rename_i ht; exact ⟨_, by simpa [eq_comm] using h, by simp [ht]⟩
  · rename_i ht
    split at h
    · rename_i ha; exact ⟨_, by simpa [eq_comm] using h, by rw [if_neg ht]; exact ⟨rfl, ha⟩⟩
    · cases h

theorem State.bxWritePc_eq {s : State} {a : Word} (h : a &&& 3 ≠ 2) :
    s.bxWritePc a = .ok ((s.setCpsr (setBit s.cpsr 5 (a.getLsbD 0))).setPc (a &&& 0xFFFFFFFE)) := by
  unfold State.bxWritePc; rw [if_neg h]

theorem State.bxWritePc_unpredictable {s : State} {a : Word} (h : a &&& 3 = 2) :
    s.bxWritePc a = unpredictable .exchangeUnaligned := by
  unfold State.bxWritePc; rw [if_pos h]

/-- An exchange that answers wrote only T and the pc. -/
theorem State.bxWritePc_ok {s t : State} {a : Word} (h : s.bxWritePc a = .ok t) :
    a &&& 3 ≠ 2 ∧ t = (s.setCpsr (setBit s.cpsr 5 (a.getLsbD 0))).setPc (a &&& 0xFFFFFFFE) := by
  unfold State.bxWritePc at h
  split at h
  · cases h
  · rename_i ha; exact ⟨ha, by simpa [eq_comm] using h⟩

/-- An exception return that answers wrote the cpsr, to a listed mode without J, and the pc, and left the monitor open. -/
theorem State.exceptionReturn_ok {s t : State} {new target : Word} (h : s.exceptionReturn new target = .ok t) :
    (Mode.ofBits (modeField (new &&& psrValid))).isSome = true ∧ (new &&& psrValid).getLsbD 24 = false ∧
      (s.openMonitor.setCpsr (new &&& psrValid)).branchTo target = .ok t := by
  unfold State.exceptionReturn at h
  dsimp only at h
  split at h
  · cases h
  · split at h
    · cases h
    · rename_i h1 h2
      refine ⟨?_, by simpa using h2, h⟩
      cases hm : Mode.ofBits (modeField (new &&& psrValid)) with
      | none => exact absurd (by simp [hm]) h1
      | some m => rfl

/-! ## Exceptions -/

/-- The entry of an exception other than reset, field by field (R655, R656). -/
theorem enter_eq {e : Exc} {k : Fin 5} (s : State) (he : e ≠ .reset) (hk : e.mode.spsrIndex = some k) :
    enter e s = { (s.setRegIn (some e.mode) 14 (e.link s)).openMonitor with
      spsr := s.spsr.set k.val (s.cpsr &&& psrValid), cpsr := e.psr s.cpsr, pc := s.vectorBase + e.vector } := by
  cases e <;> first | exact absurd rfl he | (simp [Exc.mode, Mode.spsrIndex] at hk; subst hk; rfl)

@[simp] theorem enter_reset (s : State) : enter .reset s = takeReset s := rfl

@[simp] theorem enter_mem (e : Exc) (s : State) (h : e ≠ .reset) : (enter e s).mem = s.mem := by
  cases e <;> first | exact absurd rfl h | simp [enter, Exc.mode, Mode.spsrIndex]

/-- The marks of the monitor are not changed (R655), and are open after it (R113). -/
theorem enter_monitor (e : Exc) (s : State) (h : e ≠ .reset) :
    (enter e s).exclOutstanding = s.exclOutstanding ∧ (enter e s).exclAddr = s.exclAddr ∧
      (enter e s).openOutstanding = true ∧ (enter e s).openAddr = true := by
  cases e <;> first | exact absurd rfl h | simp [enter, Exc.mode, Mode.spsrIndex]

/-- Memory after a reset is a free value in canonical form (R701, R702). -/
theorem takeReset_mem_wf (s : State) : (takeReset s).mem.wf = true := Memory.wf_ofCells _

@[simp] theorem enter_cp15c1 (e : Exc) (s : State) (h : e ≠ .reset) : (enter e s).cp15c1 = s.cp15c1 := by
  cases e <;> first | exact absurd rfl h | simp [enter, Exc.mode, Mode.spsrIndex]

/-! ## Memory accesses -/

theorem State.memRead_open {s : State} {a : Word} {n : Nat} {priv : Bool} (hw : crossesTop a n = false)
    (ha : s.extAbort a n .read priv = false) :
    s.memRead a n priv = .ok (packData s.bigEndian (s.bytesAt a n)) := by simp [State.memRead, hw, ha]

theorem State.memRead_abort {s : State} {a : Word} {n : Nat} {priv : Bool} (hw : crossesTop a n = false)
    (ha : s.extAbort a n .read priv = true) : s.memRead a n priv = raise .dataAbort s := by
  simp [State.memRead, hw, ha]

/-- A read answers only where the access is let through; it changes nothing. -/
theorem State.memRead_ok {s : State} {a v : Word} {n : Nat} {priv : Bool} (h : s.memRead a n priv = .ok v) :
    crossesTop a n = false ∧ s.extAbort a n .read priv = false ∧ v = packData s.bigEndian (s.bytesAt a n) := by
  unfold State.memRead at h
  split at h
  · cases h
  · split at h
    · cases h
    · rename_i h1 h2; exact ⟨by simpa using h1, by simpa using h2, by simpa [eq_comm] using h⟩

theorem State.memWrite_open {s : State} {a v : Word} {n : Nat} {priv : Bool} (hw : crossesTop a n = false)
    (ha : s.extAbort a n .write priv = false) :
    s.memWrite a n v priv = .ok (s.setBytes a (unpackData s.bigEndian v n)) := by simp [State.memWrite, hw, ha]

theorem State.memWrite_abort {s : State} {a v : Word} {n : Nat} {priv : Bool} (hw : crossesTop a n = false)
    (ha : s.extAbort a n .write priv = true) : s.memWrite a n v priv = raise .dataAbort s := by
  simp [State.memWrite, hw, ha]

/-- A write answers only where the access is let through; it changes only the bytes it names. -/
theorem State.memWrite_ok {s t : State} {a v : Word} {n : Nat} {priv : Bool} (h : s.memWrite a n v priv = .ok t) :
    crossesTop a n = false ∧ s.extAbort a n .write priv = false ∧
      t = s.setBytes a (unpackData s.bigEndian v n) := by
  unfold State.memWrite at h
  split at h
  · cases h
  · split at h
    · cases h
    · rename_i h1 h2; exact ⟨by simpa using h1, by simpa using h2, by simpa [eq_comm] using h⟩

/-- A write changes nothing but memory. -/
theorem State.memWrite_only_mem {s t : State} {a v : Word} {n : Nat} {priv : Bool}
    (h : s.memWrite a n v priv = .ok t) : t = { s with mem := t.mem } := by
  obtain ⟨-, -, rfl⟩ := State.memWrite_ok h; exact State.setBytes_eq s a _

/-- A write keeps the canonical form. -/
theorem State.memWrite_wf {s t : State} {a v : Word} {n : Nat} {priv : Bool} (h : s.memWrite a n v priv = .ok t)
    (hw : s.mem.wf = true) : t.mem.wf = true := by
  obtain ⟨-, -, rfl⟩ := State.memWrite_ok h; exact State.setBytes_wf s a _ hw

/-- A run of word writes changes nothing but memory. -/
theorem State.writeWords_only_mem {s t : State} {a : Word} {vs : List Word} (h : s.writeWords a vs = .ok t) :
    t = { s with mem := t.mem } := by
  induction vs generalizing s a with
  | nil => cases h; rfl
  | cons v vs ih =>
    obtain ⟨u, hu, ht⟩ := Res.bind_ok h
    rw [ih ht, State.memWrite_only_mem hu]

/-- A run of word writes keeps the canonical form. -/
theorem State.writeWords_wf {s t : State} {a : Word} {vs : List Word} (h : s.writeWords a vs = .ok t)
    (hw : s.mem.wf = true) : t.mem.wf = true := by
  induction vs generalizing s a with
  | nil => cases h; exact hw
  | cons v vs ih =>
    obtain ⟨u, hu, ht⟩ := Res.bind_ok h
    exact ih ht (State.memWrite_wf hu hw)

/-- A run of word reads gives one word for each. -/
theorem State.readWords_length {s : State} {a : Word} {n : Nat} {vs : List Word} (h : s.readWords a n = .ok vs) :
    vs.length = n := by
  induction n generalizing a vs with
  | zero => cases h; rfl
  | succ n ih =>
    obtain ⟨v, -, h⟩ := Res.bind_ok h
    obtain ⟨us, hu, h⟩ := Res.bind_ok h
    cases h
    simp [ih hu]

/-! ## The exclusive monitor -/

/-- No mark: the answer is false and the mark is cleared (R112). -/
theorem State.isExclusive_unmarked {s : State} {a : Word} (h : s.marked a = false) :
    s.isExclusive a = (false, s.clearExclusive a) := by simp [State.isExclusive, h]

/-- A mark with no store, entry or return since: the answer is true and the mark is cleared (R112). -/
theorem State.isExclusive_marked {s : State} {a : Word} (h : s.marked a = true) (ho : s.markOpen a = false) :
    s.isExclusive a = (true, s.clearExclusive a) := by simp [State.isExclusive, h, ho]

/-- Whatever the answer, the test clears the mark and changes nothing else but the count of free values; it is true only of
a mark (R112, R113). -/
theorem State.isExclusive_spec (s : State) (a : Word) :
    ((s.isExclusive a).1 = true → s.marked a = true) ∧
      ∃ k, (s.isExclusive a).2 = { s.clearExclusive a with freeCount := k } := by
  have hd : s.drawBit.2.shared a = s.shared a := rfl
  unfold State.isExclusive
  split
  · exact ⟨fun _ => by simp_all, s.freeCount + 1, by cases hs : s.shared a <;> simp [State.clearExclusive, hd, hs]⟩
  · exact ⟨id, s.freeCount, by cases hs : s.shared a <;> simp [State.clearExclusive, hs]⟩

/-! ## Status bits -/

theorem setBit_getLsbD (w : Word) (i j : Nat) (b : Bool) (hi : i < 32) (hj : j < 32) :
    (setBit w i b).getLsbD j = if j = i then b else w.getLsbD j := by
  have h1 : (1#32 <<< i).getLsbD j = decide (j = i) := by
    simp only [BitVec.getLsbD_shiftLeft, BitVec.getLsbD_one]
    by_cases h : j = i
    · subst h; simp [hi]
    · have : j < i ∨ j - i ≠ 0 := by omega
      rcases this with h' | h' <;> simp [h, h', hj]
  unfold setBit
  split <;> rename_i hb
  · rw [BitVec.getLsbD_or, h1]
    by_cases h : j = i <;> simp [h, hb]
  · rw [BitVec.getLsbD_and, BitVec.getLsbD_not, h1]
    by_cases h : j = i <;> simp [h, hj, hb]

theorem maskWrite_getLsbD (old new mask : Word) (j : Nat) (hj : j < 32) :
    (maskWrite old new mask).getLsbD j = if mask.getLsbD j then new.getLsbD j else old.getLsbD j := by
  simp only [maskWrite, BitVec.getLsbD_or, BitVec.getLsbD_and, BitVec.getLsbD_not, hj, decide_true, Bool.true_and]
  cases mask.getLsbD j <;> simp

end Sys2Proof.Machine
end

