-- ==== Sys2Proof/Laws/Meanings.lean ====
section
/-! SUPPORT. One lemma for each operation that the meanings of a family share: what it answered, if it completed. -/

namespace Sys2Proof.Machine

/-! ## Data processing -/

/-- A result to a register, or a jump, or an exception return (R221). -/
theorem State.dpWrite_ok {s t : State} {rd : RegNum} {sf : Bool} {r : Word} {flags : State → State}
    (h : s.dpWrite rd sf r flags = .ok t) :
    (rd ≠ 15 ∧ (if sf then flags (s.setReg rd r) else s.setReg rd r).advance 4 = .ok t) ∨
    (rd = 15 ∧ sf = false ∧ s.branchTo r = .ok t) ∨
    (rd = 15 ∧ sf = true ∧ ∃ psr, s.needSpsr = .ok psr ∧ s.exceptionReturn psr r = .ok t) := by
  unfold State.dpWrite at h
  split at h
  · split at h
    · obtain ⟨psr, hp, ht⟩ := Res.bind_ok h
      exact .inr (.inr ⟨by assumption, by assumption, psr, hp, ht⟩)
    · exact .inr (.inl ⟨by assumption, by simp_all, h⟩)
  · exact .inl ⟨by assumption, h⟩

/-- A result to Rd where Rd is not pc and the pc can advance. -/
theorem State.dpWrite_reg {s : State} {rd : RegNum} (sf : Bool) (r : Word) (flags : State → State) (h : rd ≠ 15) :
    s.dpWrite rd sf r flags = (if sf then flags (s.setReg rd r) else s.setReg rd r).advance 4 := by
  unfold State.dpWrite; rw [if_neg h]

/-- The spsr is there only in a mode that has one (R23, R47). -/
theorem State.needSpsr_ok {s : State} {w : Word} (h : s.needSpsr = .ok w) : s.spsr? = some w := by
  unfold State.needSpsr at h
  split at h
  · rename_i hw; rw [hw]; simpa using h
  · cases h

/-! ## Single transfers -/

/-- A transfer whose checks pass breaks no restriction of R322. -/
theorem checkTransfer_ok {wb : Bool} {rn rd : RegNum} {rm : Option RegNum} {p : Bool} {u : Unit}
    (h : checkTransfer wb rn rd rm p = .ok u) :
    (wb && rn == rd) = false ∧ (wb && rn == 15) = false ∧ (rm == some 15) = false ∧ (rd == 15 && !p) = false ∧
      (wb && rm == some rn) = false := by
  obtain ⟨_, h1, h⟩ := Res.bind_ok h
  obtain ⟨_, h2, h⟩ := Res.bind_ok h
  obtain ⟨_, h3, h⟩ := Res.bind_ok h
  obtain ⟨_, h4, h⟩ := Res.bind_ok h
  exact ⟨unpredictableIf_ok h1, unpredictableIf_ok h2, unpredictableIf_ok h3, unpredictableIf_ok h4,
    unpredictableIf_ok h⟩

/-- A word load reads the word at the address, or the containing word rotated (R105). -/
theorem State.loadWord_ok {s : State} {a v : Word} {priv : Bool} (h : s.loadWord a priv = .ok v) :
    s.memRead a 4 priv = .ok v ∨
      ∃ w, s.memRead (wordBase a) 4 priv = .ok w ∧ v = w.rotateRight (8 * (a &&& 3).toNat) := by
  unfold State.loadWord at h
  split at h
  · exact .inl h
  · split at h
    · cases h
    · split at h
      · exact .inl h
      · obtain ⟨w, hw, h⟩ := Res.bind_ok h
        cases h
        exact .inr ⟨w, hw, rfl⟩

/-- A halfword load reads the halfword at the address (R105). -/
theorem State.loadHalf_ok {s : State} {a v : Word} {priv : Bool} (h : s.loadHalf a priv = .ok v) :
    s.memRead a 2 priv = .ok v := by
  unfold State.loadHalf at h
  split at h
  · exact h
  · split at h
    · cases h
    · split at h
      · exact h
      · cases h

/-- A word store writes one word, at the address or at the word that contains it (R106). -/
theorem State.storeWord_ok {s t : State} {a v : Word} {priv : Bool} (h : s.storeWord a v priv = .ok t) :
    s.memWrite a 4 v priv = .ok t ∨ s.memWrite (wordBase a) 4 v priv = .ok t := by
  unfold State.storeWord at h
  split at h
  · exact .inl h
  · split at h
    · cases h
    · split at h
      · exact .inl h
      · exact .inr h

/-- A halfword store writes the halfword at the address (R106). -/
theorem State.storeHalf_ok {s t : State} {a v : Word} {priv : Bool} (h : s.storeHalf a v priv = .ok t) :
    s.memWrite a 2 v priv = .ok t := by
  unfold State.storeHalf at h
  split at h
  · exact h
  · split at h
    · cases h
    · split at h
      · exact h
      · cases h

/-- The doubleword test completes only at a multiple of four (R107). -/
theorem State.checkDouble_ok {s : State} {a : Word} {u : Unit} (h : s.checkDouble a = .ok u) :
    a &&& 7 = 0 ∨ (wordAligned a = true ∧ s.uBit = true) := by
  unfold State.checkDouble at h
  split at h
  · exact .inl (by assumption)
  · split at h
    · split at h
      · exact .inr ⟨by assumption, by assumption⟩
      · split at h <;> cases h
    · split at h <;> cases h

/-- The exclusive test completes only at a multiple of four (R109). -/
theorem State.checkExclusive_ok {s : State} {a : Word} {u : Unit} (h : s.checkExclusive a = .ok u) :
    wordAligned a = true := by
  unfold State.checkExclusive at h
  split at h
  · assumption
  · split at h <;> cases h

/-! ## Multiple transfers -/

/-- The address tests of a multiple transfer (R108, R91). -/
theorem State.checkBlock_ok {s : State} {a : Word} {n : Nat} {u : Unit} (h : s.checkBlock a n = .ok u) :
    (wordAligned a = true ∨ (s.aBit = false ∧ s.uBit = false)) ∧ crossesTop (wordBase a) (4 * n) = false := by
  obtain ⟨_, h1, h2⟩ := Res.bind_ok h
  refine ⟨?_, unpredictableIf_ok h2⟩
  unfold State.checkMultiple at h1
  split at h1
  · cases h1
  · rename_i hn
    cases hw : wordAligned a <;> cases ha : s.aBit <;> cases hu : s.uBit <;> simp_all

/-- The words of a load multiple are as many as the registers. -/
theorem State.loadBlock_ok {s : State} {p u : Bool} {rn : RegNum} {n : Nat} {vs : List Word}
    (h : s.loadBlock p u rn n = .ok vs) :
    s.readWords (blockStart p u (s.reg rn) n) n = .ok vs ∧ vs.length = n := by
  obtain ⟨_, -, h⟩ := Res.bind_ok h
  exact ⟨h, State.readWords_length h⟩

/-- The writes of a load multiple change only registers. -/
theorem State.setRegs_only_regs (s : State) (m : Option Mode) (rs : List RegNum) (vs : List Word) :
    s.setRegs m rs vs = { s with regs := (s.setRegs m rs vs).regs } := by
  induction rs generalizing s vs with
  | nil => rfl
  | cons r rs ih =>
    cases vs with
    | nil => rfl
    | cons v vs =>
      rw [State.setRegs, ih]
      simp

/-- A copy that no register of the list selects keeps its value. -/
theorem State.setRegs_regs_ne (s : State) (m : Option Mode) (rs : List RegNum) (vs : List Word) (k : Fin 30)
    (h : ∀ r ∈ rs, bank m r ≠ some k) : (s.setRegs m rs vs).regs[k.val] = s.regs[k.val] := by
  induction rs generalizing s vs with
  | nil => rfl
  | cons r rs ih =>
    cases vs with
    | nil => rfl
    | cons v vs =>
      rw [State.setRegs, ih _ _ fun q hq => h q (by simp [hq])]
      exact s.setRegIn_regs_ne m r v k (h r (by simp))

/-! ## Coprocessors -/

@[simp] theorem restriction_true (f : Fault) : restriction true f = some f := rfl
@[simp] theorem restriction_false (f : Fault) : restriction false f = none := rfl

/-- An instruction goes on only where it breaks no restriction and the coprocessor is present and accepts it (R280). -/
theorem State.checkCp_ok {s : State} {p : RegNum} {i : Instr} {b : Option Fault} {u : Unit}
    (h : s.checkCp p i b = .ok u) : b = none ∧ s.cop[p.val].present = true ∧ s.cpAccepts p i = true := by
  cases b <;> simp only [State.checkCp] at h <;> split at h
  · simp_all
  all_goals cases h

/-- Where it is absent or rejects the instruction, an instruction that breaks no restriction raises the undefined
instruction exception (R280). -/
theorem State.checkCp_raise {s : State} {p : RegNum} {i : Instr}
    (h : s.cop[p.val].present = false ∨ s.cpAccepts p i = false) : s.checkCp p i none = raise .undefined s := by
  unfold State.checkCp; rcases h with h | h <;> simp [h]

/-- One that breaks a restriction is UNPREDICTABLE by R663's order, and raises that exception by R280's (log 16). -/
theorem State.checkCp_broken {s : State} {p : RegNum} {i : Instr} {f : Fault}
    (h : s.cop[p.val].present = false ∨ s.cpAccepts p i = false) :
    s.checkCp p i (some f) = if Config.restrictionsFirst i then unpredictable f else raise .undefined s := by
  unfold State.checkCp; rcases h with h | h <;> simp [h]

/-- Where the coprocessor accepts the instruction, a broken restriction is UNPREDICTABLE (R287, R288, R292, R284). -/
theorem State.checkCp_unpredictable {s : State} {p : RegNum} {i : Instr} {f : Fault}
    (hp : s.cop[p.val].present = true) (ha : s.cpAccepts p i = true) :
    s.checkCp p i (some f) = unpredictable f := by
  simp [State.checkCp, hp, ha]

/-- An operation that p15 does not describe goes on only for another coprocessor (R282). -/
theorem State.checkCpOther_ok {s : State} {p : RegNum} {i : Instr} {b : Option Fault} {u : Unit}
    (h : s.checkCpOther p i b = .ok u) :
    b = none ∧ s.cop[p.val].present = true ∧ s.cpAccepts p i = true ∧ p ≠ 15 := by
  obtain ⟨_, h1, h2⟩ := Res.bind_ok h
  obtain ⟨hb, hp, ha⟩ := State.checkCp_ok h1
  refine ⟨hb, hp, ha, ?_⟩
  split at h2
  · cases h2
  · assumption

/-- The delivery of the words of LDC changes only coprocessors (R285). -/
theorem State.ldcWords_only_cop (s : State) (req : CpReq) (k : Nat) (vs : List Word) :
    s.ldcWords req k vs = { s with cop := (s.ldcWords req k vs).cop } := by
  induction vs generalizing s k with
  | nil => rfl
  | cons v vs ih => rw [State.ldcWords, ih]; rfl

/-- An LDC that completes read all of its words first, and the coprocessor was present and accepted it (R98, R285). -/
theorem State.cpLoad_ok {s t : State} {i : Instr} {req : CpReq} {rn : RegNum} {m : CpAddressing}
    (h : s.cpLoad i req rn m = .ok t) :
    s.cop[req.cp.val].present = true ∧ s.cpAccepts req.cp i = true ∧ req.cp ≠ 15 ∧
      ∃ vs, s.readWords (cpAddress m (s.reg rn)).addr ((Config.cpLdcCount req (s.cpRegs req.cp)).val + 1) = .ok vs ∧
        ((s.ldcWords req 0 vs).writeBase rn (cpAddress m (s.reg rn))).advance 4 = .ok t := by
  obtain ⟨_, h1, h⟩ := Res.bind_ok h
  obtain ⟨_, -, h⟩ := Res.bind_ok h
  obtain ⟨vs, hv, h⟩ := Res.bind_ok h
  obtain ⟨-, hp, ha, hc⟩ := State.checkCpOther_ok h1
  exact ⟨hp, ha, hc, vs, hv, h⟩

/-- MCR to p15 writes the control register; to another coprocessor, its registers (R281, R282). -/
theorem State.cpWrite_ok {s t : State} {req : CpReq} {v : Word} (h : s.cpWrite req v = .ok t) :
    (req.cp = 15 ∧ t = { s with cp15c1 := v }) ∨
    (req.cp ≠ 15 ∧ t = s.setCpRegs req.cp (Config.cpMcr req v (s.cpRegs req.cp))) := by
  unfold State.cpWrite at h
  split at h
  · split at h
    · exact .inl ⟨by assumption, by simpa [eq_comm] using h⟩
    · cases h
  · exact .inr ⟨by assumption, by simpa [eq_comm] using h⟩

/-! ## Thumb -/

/-- A Thumb result and its N and Z. -/
theorem State.tLogic_eq {s : State} (ld : LowReg) (r : Word) (h : s.pc.toNat + 2 < 2 ^ 32) :
    s.tLogic ld r = .ok (((s.setLreg ld r).setNZ r).setPc (s.pc + 2)) := by
  unfold State.tLogic; rw [State.advance_eq (by simpa using h)]; simp

/-- A Thumb shift: N, Z and C. -/
theorem State.tShift_eq {s : State} (ld : LowReg) (r : Word × Bool) (h : s.pc.toNat + 2 < 2 ^ 32) :
    s.tShift ld r = .ok (((s.setLreg ld r.1).setNZC r.1 r.2).setPc (s.pc + 2)) := by
  unfold State.tShift; rw [State.advance_eq (by simpa using h)]; simp

/-- A Thumb sum: the four flags. -/
theorem State.tArith_eq {s : State} (ld : LowReg) (r : Word × Bool × Bool) (h : s.pc.toNat + 2 < 2 ^ 32) :
    s.tArith ld r = .ok (((s.setLreg ld r.1).setNZCV r.1 r.2.1 r.2.2).setPc (s.pc + 2)) := by
  unfold State.tArith; rw [State.advance_eq (by simpa using h)]; simp

/-- A Thumb move: no flag. -/
theorem State.tMove_eq {s : State} (ld : LowReg) (r : Word) (h : s.pc.toNat + 2 < 2 ^ 32) :
    s.tMove ld r = .ok ((s.setLreg ld r).setPc (s.pc + 2)) := by
  unfold State.tMove; rw [State.advance_eq (by simpa using h)]; simp

end Sys2Proof.Machine
end

