-- ==== Sys2Proof/Tests/Slice0.lean ====
section
/-! SUPPORT. Tests: ill-formed terms refused, words written out from the encodings of spec/opcode_table.json, worked
vectors of spec/95_test_vectors.md and spec/96_test_vectors_derived.md, and a witness for the hypotheses of every
statement. -/

namespace Sys2Proof.Tests

set_option Elab.async false

open Sys2Proof Sys2Proof.Machine

/-! ## WellFormed: each check refuses an ill-formed term -/

/-- Rn = 1111 is not an accumulating form (R150, R151, R159 (c)). -/
theorem test_wellFormed_accumulates :
    ([.sxtab16 .al 15 0 0 1, .sxtab .al 15 0 0 1, .sxtah .al 15 0 0 1, .uxtab16 .al 15 0 0 1, .uxtab .al 15 0 0 1,
      .uxtah .al 15 0 0 1, .smlad .al 0 15 1 false 2, .smlsd .al 0 15 1 false 2, .smmla .al 0 15 1 false 2,
      .usada8 .al 0 15 1 2] : List Instr).all (fun i => !i.wellFormed) = true := by decide +kernel

/-- CPSIE and CPSID need a flag letter, and no mode without M (R300). -/
theorem test_wellFormed_cps :
    (Instr.cpsFlags true false false false false 0).wellFormed = false ∧
    (Instr.cpsFlags true false true false false 0x13).wellFormed = false ∧
    (Instr.cpsFlags true true true false false 0x13).wellFormed = true := by decide +kernel

/-- Two low registers are not a high-register form (R164). -/
theorem test_wellFormed_high :
    (Instr.tAddHigh 7 7).wellFormed = false ∧ (Instr.tMovHigh 0 7).wellFormed = false ∧
    (Instr.tCmpHigh 7 0).wellFormed = false ∧ (Instr.tMovHigh 8 7).wellFormed = true := by decide +kernel

/-- The Thumb conditional branch has no AL (R171). -/
theorem test_wellFormed_branch : (Instr.tBCond .al 0).wellFormed = false ∧ (Instr.tBCond .le 0).wellFormed = true := by
  decide +kernel

/-! ## Decode: one word for every row of the opcode table, its fields laid out as the row lays them out -/

theorem test_decode_data_processing_1 : ([
    (0b1110_000_0000_0_0011_0110_00101_11_0_0000, .and .al false 3 6 (.shiftImm ⟨5, .ror, 0⟩)),
    (0b0000_000_0000_1_1001_1100_0000_0_00_1_0110, .and .eq true 9 12 (.shiftReg ⟨0, .lsl, 6⟩)),
    (0b0001_001_0000_0_0000_0011_0110_00011100, .and .ne false 0 3 (.imm ⟨6, 28⟩)),
    (0b1100_000_0001_1_0110_1001_01100_10_0_0011, .eor .gt true 6 9 (.shiftImm ⟨12, .asr, 3⟩)),
    (0b1000_000_0001_0_1100_0000_0011_0_11_1_1001, .eor .hi false 12 0 (.shiftReg ⟨3, .ror, 9⟩)),
    (0b0010_001_0001_1_0011_0110_1001_10100011, .eor .cs true 3 6 (.imm ⟨9, 163⟩)),
    (0b1011_000_0010_0_1001_1100_10011_01_0_0110, .sub .lt false 9 12 (.shiftImm ⟨19, .lsr, 6⟩)),
    (0b0100_000_0010_1_0000_0011_0110_0_10_1_1100, .sub .mi true 0 3 (.shiftReg ⟨6, .asr, 12⟩)),
    (0b1010_001_0010_0_0110_1001_1100_00101010, .sub .ge false 6 9 (.imm ⟨12, 42⟩)),
    (0b0011_000_0011_1_1100_0000_11010_00_0_1001, .rsb .cc true 12 0 (.shiftImm ⟨26, .lsl, 9⟩)),
    (0b0101_000_0011_0_0011_0110_1001_0_01_1_0000, .rsb .pl false 3 6 (.shiftReg ⟨9, .lsr, 0⟩)),
    (0b0110_001_0011_1_1001_1100_0000_10110001, .rsb .vs true 9 12 (.imm ⟨0, 177⟩)),
    (0b0111_000_0100_0_0000_0011_00001_11_0_1100, .add .vc false 0 3 (.shiftImm ⟨1, .ror, 12⟩)),
    (0b1001_000_0100_1_0110_1001_1100_0_00_1_0011, .add .ls true 6 9 (.shiftReg ⟨12, .lsl, 3⟩)),
    (0b1101_001_0100_0_1100_0000_0011_00111000, .add .le false 12 0 (.imm ⟨3, 56⟩)),
    (0b1110_000_0101_1_0011_0110_01000_10_0_0000, .adc .al true 3 6 (.shiftImm ⟨8, .asr, 0⟩))] : List (BitVec 32 × Instr)).all (fun x => decodeArm x.1 == some x.2) = true := by
  decide +kernel

theorem test_decode_data_processing_2 : ([
    (0b0000_000_0101_0_1001_1100_0000_0_11_1_0110, .adc .eq false 9 12 (.shiftReg ⟨0, .ror, 6⟩)),
    (0b0001_001_0101_1_0000_0011_0110_10111111, .adc .ne true 0 3 (.imm ⟨6, 191⟩)),
    (0b1100_000_0110_0_0110_1001_01111_01_0_0011, .sbc .gt false 6 9 (.shiftImm ⟨15, .lsr, 3⟩)),
    (0b1000_000_0110_1_1100_0000_0011_0_10_1_1001, .sbc .hi true 12 0 (.shiftReg ⟨3, .asr, 9⟩)),
    (0b0010_001_0110_0_0011_0110_1001_01000110, .sbc .cs false 3 6 (.imm ⟨9, 70⟩)),
    (0b1011_000_0111_1_1001_1100_10110_00_0_0110, .rsc .lt true 9 12 (.shiftImm ⟨22, .lsl, 6⟩)),
    (0b0100_000_0111_0_0000_0011_0110_0_01_1_1100, .rsc .mi false 0 3 (.shiftReg ⟨6, .lsr, 12⟩)),
    (0b1010_001_0111_1_0110_1001_1100_11001101, .rsc .ge true 6 9 (.imm ⟨12, 205⟩))] : List (BitVec 32 × Instr)).all (fun x => decodeArm x.1 == some x.2) = true := by
  decide +kernel

theorem test_decode_compare_move_1 : ([
    (0b0011_000_1000_1_1100_0000_11101_11_0_1001, .tst .cc 12 (.shiftImm ⟨29, .ror, 9⟩)),
    (0b0101_000_1000_1_0011_0000_1001_0_00_1_0000, .tst .pl 3 (.shiftReg ⟨9, .lsl, 0⟩)),
    (0b0110_001_1000_1_1001_0000_0000_01010100, .tst .vs 9 (.imm ⟨0, 84⟩)),
    (0b0111_000_1001_1_0000_0000_00100_10_0_1100, .teq .vc 0 (.shiftImm ⟨4, .asr, 12⟩)),
    (0b1001_000_1001_1_0110_0000_1100_0_11_1_0011, .teq .ls 6 (.shiftReg ⟨12, .ror, 3⟩)),
    (0b1101_001_1001_1_1100_0000_0011_11011011, .teq .le 12 (.imm ⟨3, 219⟩)),
    (0b1110_000_1010_1_0011_0000_01011_01_0_0000, .cmp .al 3 (.shiftImm ⟨11, .lsr, 0⟩)),
    (0b0000_000_1010_1_1001_0000_0000_0_10_1_0110, .cmp .eq 9 (.shiftReg ⟨0, .asr, 6⟩)),
    (0b0001_001_1010_1_0000_0000_0110_01100010, .cmp .ne 0 (.imm ⟨6, 98⟩)),
    (0b1100_000_1011_1_0110_0000_10010_00_0_0011, .cmn .gt 6 (.shiftImm ⟨18, .lsl, 3⟩)),
    (0b1000_000_1011_1_1100_0000_0011_0_01_1_1001, .cmn .hi 12 (.shiftReg ⟨3, .lsr, 9⟩)),
    (0b0010_001_1011_1_0011_0000_1001_11101001, .cmn .cs 3 (.imm ⟨9, 233⟩)),
    (0b1011_000_1100_0_1001_1100_11001_11_0_0110, .orr .lt false 9 12 (.shiftImm ⟨25, .ror, 6⟩)),
    (0b0100_000_1100_1_0000_0011_0110_0_00_1_1100, .orr .mi true 0 3 (.shiftReg ⟨6, .lsl, 12⟩)),
    (0b1010_001_1100_0_0110_1001_1100_01110000, .orr .ge false 6 9 (.imm ⟨12, 112⟩)),
    (0b0011_000_1101_1_0000_0000_00000_10_0_1001, .mov .cc true 0 (.shiftImm ⟨0, .asr, 9⟩))] : List (BitVec 32 × Instr)).all (fun x => decodeArm x.1 == some x.2) = true := by
  decide +kernel

theorem test_decode_compare_move_2 : ([
    (0b0101_000_1101_0_0000_0110_1001_0_11_1_0000, .mov .pl false 6 (.shiftReg ⟨9, .ror, 0⟩)),
    (0b0110_001_1101_1_0000_1100_0000_11110111, .mov .vs true 12 (.imm ⟨0, 247⟩)),
    (0b0111_000_1110_0_0000_0011_00111_01_0_1100, .bic .vc false 0 3 (.shiftImm ⟨7, .lsr, 12⟩)),
    (0b1001_000_1110_1_0110_1001_1100_0_10_1_0011, .bic .ls true 6 9 (.shiftReg ⟨12, .asr, 3⟩)),
    (0b1101_001_1110_0_1100_0000_0011_01111110, .bic .le false 12 0 (.imm ⟨3, 126⟩)),
    (0b1110_000_1111_1_0000_0110_01110_00_0_0000, .mvn .al true 6 (.shiftImm ⟨14, .lsl, 0⟩)),
    (0b0000_000_1111_0_0000_1100_0000_0_01_1_0110, .mvn .eq false 12 (.shiftReg ⟨0, .lsr, 6⟩)),
    (0b0001_001_1111_1_0000_0011_0110_00000101, .mvn .ne true 3 (.imm ⟨6, 5⟩))] : List (BitVec 32 × Instr)).all (fun x => decodeArm x.1 == some x.2) = true := by
  decide +kernel

theorem test_decode_multiply_1 : ([
    (0b1100_0000_000_0_0110_0000_1100_1001_0011, .mul .gt false 6 12 3),
    (0b1000_0000_001_1_1100_0000_0011_1001_1001, .mla .hi true 12 0 3 9),
    (0b0010_0000_0100_0011_0110_1001_1001_0000, .umaal .cs 3 6 9 0),
    (0b1011_0000_1_00_1_1001_1100_0000_1001_0110, .umull .lt true 9 12 0 6),
    (0b0100_0000_1_01_0_0000_0011_0110_1001_1100, .umlal .mi false 0 3 6 12),
    (0b1010_0000_1_10_1_0110_1001_1100_1001_0011, .smull .ge true 6 9 12 3),
    (0b0011_0000_1_11_0_1100_0000_0011_1001_1001, .smlal .cc false 12 0 3 9),
    (0b0100_0001_0000_0000_0011_0110_1_0_1_0_1100, .smlaxy .mi 0 3 6 false true 12),
    (0b1010_0001_0010_0110_1001_1100_1_1_0_0_0011, .smlawy .ge 6 9 12 true 3),
    (0b0011_0001_0010_1100_0000_0011_1_0_1_0_1001, .smulwy .cc 12 3 false 9),
    (0b0101_0001_0100_0011_0110_1001_1_1_0_0_0000, .smlalxy .pl 3 6 9 true false 0),
    (0b0110_0001_0110_1001_0000_0000_1_0_1_0_0110, .smulxy .vs 9 0 false true 6),
    (0b1010_0111_0000_0110_1001_1100_00_0_1_0011, .smlad .ge 6 9 12 false 3),
    (0b0011_0111_0000_1100_1111_0011_00_1_1_1001, .smuad .cc 12 3 true 9),
    (0b0101_0111_0000_0011_0110_1001_01_0_1_0000, .smlsd .pl 3 6 9 false 0),
    (0b0110_0111_0000_1001_1111_0000_01_1_1_0110, .smusd .vs 9 0 true 6)] : List (BitVec 32 × Instr)).all (fun x => decodeArm x.1 == some x.2) = true := by
  decide +kernel

theorem test_decode_multiply_2 : ([
    (0b0111_0111_0100_0000_0011_0110_00_0_1_1100, .smlald .vc 0 3 6 false 12),
    (0b1001_0111_0100_0110_1001_1100_01_1_1_0011, .smlsld .ls 6 9 12 true 3),
    (0b1101_0111_0101_1100_0000_0011_00_0_1_1001, .smmla .le 12 0 3 false 9),
    (0b1110_0111_0101_0011_1111_1001_00_1_1_0000, .smmul .al 3 9 true 0),
    (0b0000_0111_0101_1001_1100_0000_11_0_1_0110, .smmls .eq 9 12 0 false 6)] : List (BitVec 32 × Instr)).all (fun x => decodeArm x.1 == some x.2) = true := by
  decide +kernel

theorem test_decode_halfword_exclusive : ([
    (0b0101_000_1_0_0_1_0_0011_0110_0000_1_01_1_0000, .strh .pl .pre false 3 6 (.reg 0)),
    (0b0110_000_0_1_1_0_0_1001_1100_0000_1_01_1_0110, .strh .vs .post true 9 12 (.imm 6)),
    (0b0111_000_1_0_0_0_1_0000_0011_0000_1_01_1_1100, .ldrh .vc .offset false 0 3 (.reg 12)),
    (0b1001_000_1_1_1_1_1_0110_1001_1100_1_01_1_0011, .ldrh .ls .pre true 6 9 (.imm 195)),
    (0b1101_000_0_0_0_0_0_1100_0000_0000_1_10_1_1001, .ldrd .le .post false 12 0 (.reg 9)),
    (0b1110_000_1_1_1_0_0_0011_0110_1001_1_10_1_0000, .ldrd .al .offset true 3 6 (.imm 144)),
    (0b0000_000_1_0_0_1_0_1001_1100_0000_1_11_1_0110, .strd .eq .pre false 9 12 (.reg 6)),
    (0b0001_000_0_1_1_0_0_0000_0011_0110_1_11_1_1100, .strd .ne .post true 0 3 (.imm 108)),
    (0b1100_000_1_0_0_0_1_0110_1001_0000_1_10_1_0011, .ldrsb .gt .offset false 6 9 (.reg 3)),
    (0b1000_000_1_1_1_1_1_1100_0000_0011_1_10_1_1001, .ldrsb .hi .pre true 12 0 (.imm 57)),
    (0b0010_000_0_0_0_0_1_0011_0110_0000_1_11_1_0000, .ldrsh .cs .post false 3 6 (.reg 0)),
    (0b1011_000_1_1_1_0_1_1001_1100_0000_1_11_1_0110, .ldrsh .lt .offset true 9 12 (.imm 6)),
    (0b0111_0001_0000_0000_0011_0000_1001_1100, .swp .vc 0 3 12),
    (0b1001_0001_0100_0110_1001_0000_1001_0011, .swpb .ls 6 9 3),
    (0b1101_0001_1000_1100_0000_1111_1001_1001, .strex .le 12 0 9),
    (0b1110_0001_1001_0011_0110_1111_1001_1111, .ldrex .al 3 6)] : List (BitVec 32 × Instr)).all (fun x => decodeArm x.1 == some x.2) = true := by
  decide +kernel

theorem test_decode_branch_system_1 : ([
    (0b0100_0001_0_0_00_1111_0011_0000_0000_0000, .mrsCpsr .mi 3),
    (0b1010_0001_0_1_00_1111_1001_0000_0000_0000, .mrsSpsr .ge 9),
    (0b0011_0001_0_0_10_1100_1111_0000_0000_1001, .msrCpsr .cc 12 (.reg 9)),
    (0b0101_0001_0_1_10_0011_1111_0000_0000_0000, .msrSpsr .pl 3 (.reg 0)),
    (0b0110_0011_0_0_10_1001_1111_0000_00111101, .msrCpsr .vs 9 (.imm ⟨0, 61⟩)),
    (0b0111_0011_0_1_10_0000_1111_0110_01101010, .msrSpsr .vc 0 (.imm ⟨6, 106⟩)),
    (0b1001_0001_0010_1111_1111_1111_0001_0011, .bx .ls 3),
    (0b1101_0001_0010_1111_1111_1111_0010_1001, .bxj .le 9),
    (0b1110_0001_0010_1111_1111_1111_0011_0000, .blxReg .al 0),
    (0b0000_0001_0110_1111_1100_1111_0001_0110, .clz .eq 12 6),
    (0b1110_0001_0010_1001_0111_0011_0111_1100, .bkpt 38716),
    (0b0011_101_0_010011000010101111111011, .b .cc 4991995),
    (0b0101_101_1_000000001010010100101000, .bl .pl 42280),
    (0b1100_1111_001101111000100000110011, .swi .gt 3639347),
    (0b1111_0001_0000_00_1_0_0000000_000_0_00000, .cpsMode 0),
    (0b1111_0001_0000_1_1_1_0_0000000_1_0_1_0_01101, .cpsFlags true true true false true 13)] : List (BitVec 32 × Instr)).all (fun x => decodeArm x.1 == some x.2) = true := by
  decide +kernel

theorem test_decode_branch_system_2 : ([
    (0b1111_0001_0000_0001_0000_00_1_0_0000_0000, .setend true),
    (0b1111_101_1_110110110101000110011011, .blxImm true 14373275)] : List (BitVec 32 × Instr)).all (fun x => decodeArm x.1 == some x.2) = true := by
  decide +kernel

theorem test_decode_media_1 : ([
    (0b1100_0001_0_00_0_0110_1001_0000_0101_0011, .qadd .gt 6 9 3),
    (0b1000_0001_0_01_0_1100_0000_0000_0101_1001, .qsub .hi 12 0 9),
    (0b0010_0001_0_10_0_0011_0110_0000_0101_0000, .qdadd .cs 3 6 0),
    (0b1011_0001_0_11_0_1001_1100_0000_0101_0110, .qdsub .lt 9 12 6),
    (0b0000_0110_1000_1001_1100_10000_001_0110, .pkhbt .eq 9 12 16 6),
    (0b0001_0110_1000_0000_0011_11101_101_1100, .pkhtb .ne 0 3 29 12),
    (0b1100_0110_101_10111_1001_01010_1_01_0011, .ssat .gt 23 9 10 true 3),
    (0b1000_0110_111_00100_0000_10111_0_01_1001, .usat .hi 4 0 23 false 9),
    (0b0010_0110_1010_0011_0110_1111_0011_0000, .ssat16 .cs 3 6 0),
    (0b1011_0110_1110_1001_1100_1111_0011_0110, .usat16 .lt 9 12 6),
    (0b0100_0110_1000_0000_0011_1111_1011_1100, .sel .mi 0 3 12),
    (0b1010_0110_1011_1111_1001_1111_0011_0011, .rev .ge 9 3),
    (0b0011_0110_1011_1111_0000_1111_1011_1001, .rev16 .cc 0 9),
    (0b0101_0110_1111_1111_0110_1111_1011_0000, .revsh .pl 6 0),
    (0b0110_0110_1_000_1001_1100_01_00_0111_0110, .sxtab16 .vs 9 12 1 6),
    (0b0111_0110_1_000_1111_0011_10_00_0111_1100, .sxtb16 .vc 3 2 12)] : List (BitVec 32 × Instr)).all (fun x => decodeArm x.1 == some x.2) = true := by
  decide +kernel

theorem test_decode_media_2 : ([
    (0b1001_0110_1_010_0110_1001_11_00_0111_0011, .sxtab .ls 6 9 3 3),
    (0b1101_0110_1_010_1111_0000_00_00_0111_1001, .sxtb .le 0 0 9),
    (0b1110_0110_1_011_0011_0110_01_00_0111_0000, .sxtah .al 3 6 1 0),
    (0b0000_0110_1_011_1111_1100_10_00_0111_0110, .sxth .eq 12 2 6),
    (0b0001_0110_1_100_0000_0011_11_00_0111_1100, .uxtab16 .ne 0 3 3 12),
    (0b1100_0110_1_100_1111_1001_00_00_0111_0011, .uxtb16 .gt 9 0 3),
    (0b1000_0110_1_110_1100_0000_01_00_0111_1001, .uxtab .hi 12 0 1 9),
    (0b0010_0110_1_110_1111_0110_10_00_0111_0000, .uxtb .cs 6 2 0),
    (0b1011_0110_1_111_1001_1100_11_00_0111_0110, .uxtah .lt 9 12 3 6),
    (0b0100_0110_1_111_1111_0011_00_00_0111_1100, .uxth .mi 3 0 12),
    (0b0001_0111_1000_0000_0011_0110_0001_1100, .usada8 .ne 0 3 6 12),
    (0b1100_0111_1000_0110_1111_1100_0001_0011, .usad8 .gt 6 12 3)] : List (BitVec 32 × Instr)).all (fun x => decodeArm x.1 == some x.2) = true := by
  decide +kernel

theorem test_decode_word_byte_1 : ([
    (0b0000_0100_0_0_0_0_1001_1100_100011000001, .str .eq .post false 9 12 (.imm 2241)),
    (0b0001_0100_1_0_1_0_0000_0011_000111101110, .strt .ne true 0 3 (.imm 494)),
    (0b1100_0101_0_0_0_0_0110_1001_101100011011, .str .gt .offset false 6 9 (.imm 2843)),
    (0b1000_0110_1_0_0_0_1100_0000_01011_01_0_1001, .str .hi .post true 12 0 (.reg ⟨11, .lsr, 9⟩)),
    (0b0010_0110_0_0_1_0_0011_0110_11000_10_0_0000, .strt .cs false 3 6 (.reg ⟨24, .asr, 0⟩)),
    (0b1011_0111_1_0_1_0_1001_1100_00101_11_0_0110, .str .lt .pre true 9 12 (.reg ⟨5, .ror, 6⟩)),
    (0b0100_0100_0_0_0_1_0000_0011_111111001111, .ldr .mi .post false 0 3 (.imm 4047)),
    (0b1010_0100_1_0_1_1_0110_1001_100011111100, .ldrt .ge true 6 9 (.imm 2300)),
    (0b0011_0101_0_0_0_1_1100_0000_001000101001, .ldr .cc .offset false 12 0 (.imm 553)),
    (0b0101_0110_1_0_0_1_0011_0110_11001_11_0_0000, .ldr .pl .post true 3 6 (.reg ⟨25, .ror, 0⟩)),
    (0b0110_0110_0_0_1_1_1001_1100_00110_00_0_0110, .ldrt .vs false 9 12 (.reg ⟨6, .lsl, 6⟩)),
    (0b0111_0111_1_0_1_1_0000_0011_10011_01_0_1100, .ldr .vc .pre true 0 3 (.reg ⟨19, .lsr, 12⟩)),
    (0b1001_0100_0_1_0_0_0110_1001_011011011101, .strb .ls .post false 6 9 (.imm 1757)),
    (0b1101_0100_1_1_1_0_1100_0000_000000001010, .strbt .le true 12 0 (.imm 10)),
    (0b1110_0101_0_1_0_0_0011_0110_100100110111, .strb .al .offset false 3 6 (.imm 2359)),
    (0b0000_0110_1_1_0_0_1001_1100_00111_01_0_0110, .strb .eq .post true 9 12 (.reg ⟨7, .lsr, 6⟩))] : List (BitVec 32 × Instr)).all (fun x => decodeArm x.1 == some x.2) = true := by
  decide +kernel

theorem test_decode_word_byte_2 : ([
    (0b0001_0110_0_1_1_0_0000_0011_10100_10_0_1100, .strbt .ne false 0 3 (.reg ⟨20, .asr, 12⟩)),
    (0b1100_0111_1_1_1_0_0110_1001_00001_11_0_0011, .strb .gt .pre true 6 9 (.reg ⟨1, .ror, 3⟩)),
    (0b1000_0100_0_1_0_1_1100_0000_110111101011, .ldrb .hi .post false 12 0 (.imm 3563)),
    (0b0010_0100_1_1_1_1_0011_0110_011100011000, .ldrbt .cs true 3 6 (.imm 1816)),
    (0b1011_0101_0_1_0_1_1001_1100_000001000101, .ldrb .lt .offset false 9 12 (.imm 69)),
    (0b0100_0110_1_1_0_1_0000_0011_10101_11_0_1100, .ldrb .mi .post true 0 3 (.reg ⟨21, .ror, 12⟩)),
    (0b1010_0110_0_1_1_1_0110_1001_00010_00_0_0011, .ldrbt .ge false 6 9 (.reg ⟨2, .lsl, 3⟩)),
    (0b0011_0111_1_1_1_1_1100_0000_01111_01_0_1001, .ldrb .cc .pre true 12 0 (.reg ⟨15, .lsr, 9⟩)),
    (0b1111_0101_0_101_0000_1111_110011100111, .pld false 0 (.imm 3303)),
    (0b1111_0111_1_101_0110_1111_10111_01_0_0011, .pld true 6 (.reg ⟨23, .lsr, 3⟩))] : List (BitVec 32 × Instr)).all (fun x => decodeArm x.1 == some x.2) = true := by
  decide +kernel

theorem test_decode_parallel_1 : ([
    (0b0101_0110_0_010_0011_0110_1111_000_1_0000, .qadd16 .pl 3 6 0),
    (0b0110_0110_0_010_1001_1100_1111_001_1_0110, .qaddsubx .vs 9 12 6),
    (0b0111_0110_0_010_0000_0011_1111_010_1_1100, .qsubaddx .vc 0 3 12),
    (0b1001_0110_0_010_0110_1001_1111_011_1_0011, .qsub16 .ls 6 9 3),
    (0b1101_0110_0_010_1100_0000_1111_100_1_1001, .qadd8 .le 12 0 9),
    (0b1110_0110_0_010_0011_0110_1111_111_1_0000, .qsub8 .al 3 6 0),
    (0b0000_0110_0_110_1001_1100_1111_000_1_0110, .uqadd16 .eq 9 12 6),
    (0b0001_0110_0_110_0000_0011_1111_001_1_1100, .uqaddsubx .ne 0 3 12),
    (0b1100_0110_0_110_0110_1001_1111_010_1_0011, .uqsubaddx .gt 6 9 3),
    (0b1000_0110_0_110_1100_0000_1111_011_1_1001, .uqsub16 .hi 12 0 9),
    (0b0010_0110_0_110_0011_0110_1111_100_1_0000, .uqadd8 .cs 3 6 0),
    (0b1011_0110_0_110_1001_1100_1111_111_1_0110, .uqsub8 .lt 9 12 6),
    (0b0100_0110_0_001_0000_0011_1111_000_1_1100, .sadd16 .mi 0 3 12),
    (0b1010_0110_0_001_0110_1001_1111_001_1_0011, .saddsubx .ge 6 9 3),
    (0b0011_0110_0_001_1100_0000_1111_010_1_1001, .ssubaddx .cc 12 0 9),
    (0b0101_0110_0_001_0011_0110_1111_011_1_0000, .ssub16 .pl 3 6 0)] : List (BitVec 32 × Instr)).all (fun x => decodeArm x.1 == some x.2) = true := by
  decide +kernel

theorem test_decode_parallel_2 : ([
    (0b0110_0110_0_001_1001_1100_1111_100_1_0110, .sadd8 .vs 9 12 6),
    (0b0111_0110_0_001_0000_0011_1111_111_1_1100, .ssub8 .vc 0 3 12),
    (0b1001_0110_0_101_0110_1001_1111_000_1_0011, .uadd16 .ls 6 9 3),
    (0b1101_0110_0_101_1100_0000_1111_001_1_1001, .uaddsubx .le 12 0 9),
    (0b1110_0110_0_101_0011_0110_1111_010_1_0000, .usubaddx .al 3 6 0),
    (0b0000_0110_0_101_1001_1100_1111_011_1_0110, .usub16 .eq 9 12 6),
    (0b0001_0110_0_101_0000_0011_1111_100_1_1100, .uadd8 .ne 0 3 12),
    (0b1100_0110_0_101_0110_1001_1111_111_1_0011, .usub8 .gt 6 9 3),
    (0b1000_0110_0_011_1100_0000_1111_000_1_1001, .shadd16 .hi 12 0 9),
    (0b0010_0110_0_011_0011_0110_1111_001_1_0000, .shaddsubx .cs 3 6 0),
    (0b1011_0110_0_011_1001_1100_1111_010_1_0110, .shsubaddx .lt 9 12 6),
    (0b0100_0110_0_011_0000_0011_1111_011_1_1100, .shsub16 .mi 0 3 12),
    (0b1010_0110_0_011_0110_1001_1111_100_1_0011, .shadd8 .ge 6 9 3),
    (0b0011_0110_0_011_1100_0000_1111_111_1_1001, .shsub8 .cc 12 0 9),
    (0b0101_0110_0_111_0011_0110_1111_000_1_0000, .uhadd16 .pl 3 6 0),
    (0b0110_0110_0_111_1001_1100_1111_001_1_0110, .uhaddsubx .vs 9 12 6)] : List (BitVec 32 × Instr)).all (fun x => decodeArm x.1 == some x.2) = true := by
  decide +kernel

theorem test_decode_parallel_3 : ([
    (0b0111_0110_0_111_0000_0011_1111_010_1_1100, .uhsubaddx .vc 0 3 12),
    (0b1001_0110_0_111_0110_1001_1111_011_1_0011, .uhsub16 .ls 6 9 3),
    (0b1101_0110_0_111_1100_0000_1111_100_1_1001, .uhadd8 .le 12 0 9),
    (0b1110_0110_0_111_0011_0110_1111_111_1_0000, .uhsub8 .al 3 6 0)] : List (BitVec 32 × Instr)).all (fun x => decodeArm x.1 == some x.2) = true := by
  decide +kernel

theorem test_decode_multiple : ([
    (0b1000_100_0_1_0_1_1_1100_1100111000011010, .ldm .hi false true true 12 52762),
    (0b0010_100_1_0_1_0_1_0011_0100011101000111, .ldmUser .cs true false false 3 18247),
    (0b1011_100_0_1_1_1_1_1001_1100000001110100, .ldmReturn .lt false true true 9 16500),
    (0b0100_100_1_0_0_0_0_0000_0011100110100001, .stm .mi true false false 0 14753),
    (0b1010_100_0_1_1_1_0_0110_1011001011001110, .stmUser .ge false true true 6 45774),
    (0b1111_100_1_0_0_0_1_1100_0000_1010_0000_0000, .rfe true false false 12),
    (0b1111_100_0_1_1_1_0_1101_0000_0101_000_01110, .srs false true true 14)] : List (BitVec 32 × Instr)).all (fun x => decodeArm x.1 == some x.2) = true := by
  decide +kernel

theorem test_decode_coprocessor_1 : ([
    (0b0110_1101_0_1_0_0_1001_1100_0000_01010101, .stc .vs true 9 12 0 (.indexed .offset false 85)),
    (0b0111_1100_1_0_1_0_0000_0011_0110_10000010, .stc .vc false 0 3 6 (.indexed .post true 130)),
    (0b1001_1100_1_1_0_0_0110_1001_1100_10101111, .stc .ls true 6 9 12 (.unindexed 175)),
    (0b1101_1101_1_0_1_1_1100_0000_0011_11011100, .ldc .le false 12 0 3 (.indexed .pre true 220)),
    (0b1110_1100_0_1_1_1_0011_0110_1001_00001001, .ldc .al true 3 6 9 (.indexed .post false 9)),
    (0b0000_1100_1_0_0_1_1001_1100_0000_00110110, .ldc .eq false 9 12 0 (.unindexed 54)),
    (0b0001_1100_0100_0000_0011_0110_1001_1100, .mcrr .ne 0 3 6 9 12),
    (0b1100_1100_0101_0110_1001_1100_0000_0011, .mrrc .gt 6 9 12 0 3),
    (0b1000_1110_1001_1100_0000_0011_110_0_1010, .cdp .hi 9 12 0 3 6 10),
    (0b0010_1110_101_0_0011_0110_1001_110_1_0000, .mcr .cs 5 3 6 9 6 0),
    (0b1011_1110_100_1_1001_1100_0000_101_1_0110, .mrc .lt 4 9 12 0 5 6),
    (0b1111_1101_1_0_1_0_0000_0011_0110_01000100, .stc2 false 0 3 6 (.indexed .pre true 68)),
    (0b1111_1100_0_1_1_0_0110_1001_1100_01110001, .stc2 true 6 9 12 (.indexed .post false 113)),
    (0b1111_1100_1_0_0_0_1100_0000_0011_10011110, .stc2 false 12 0 3 (.unindexed 158)),
    (0b1111_1101_0_1_0_1_0011_0110_1001_11001011, .ldc2 true 3 6 9 (.indexed .offset false 203)),
    (0b1111_1100_1_0_1_1_1001_1100_0000_11111000, .ldc2 false 9 12 0 (.indexed .post true 248))] : List (BitVec 32 × Instr)).all (fun x => decodeArm x.1 == some x.2) = true := by
  decide +kernel

theorem test_decode_coprocessor_2 : ([
    (0b1111_1100_1_1_0_1_0000_0011_0110_00100101, .ldc2 true 0 3 6 (.unindexed 37)),
    (0b1111_1100_0100_0110_1001_1100_0000_0011, .mcrr2 6 9 12 0 3),
    (0b1111_1100_0101_1100_0000_0011_0110_1001, .mrrc2 12 0 3 6 9),
    (0b1111_1110_0000_0011_0110_1001_011_0_0001, .cdp2 0 3 6 9 3 1),
    (0b1111_1110_010_0_1001_1100_0000_011_1_0110, .mcr2 2 9 12 0 3 6),
    (0b1111_1110_001_1_0000_0011_0110_010_1_1100, .mrc2 1 0 3 6 2 12)] : List (BitVec 32 × Instr)).all (fun x => decodeArm x.1 == some x.2) = true := by
  decide +kernel

theorem test_decode_thumb_arithmetic_1 : ([
    (0b000_00_00110_101_010, .tLslImm 6 5 2),
    (0b000_01_10011_100_001, .tLsrImm 19 4 1),
    (0b000_10_00000_011_000, .tAsrImm 0 3 0),
    (0b000_11_0_0_101_010_111, .tAddReg 5 2 7),
    (0b000_11_0_1_100_001_110, .tSubReg 4 1 6),
    (0b000_11_1_0_011_000_101, .tAddImm3 3 0 5),
    (0b000_11_1_1_010_111_100, .tSubImm3 2 7 4),
    (0b001_00_011_00000011, .tMovImm 3 3),
    (0b001_01_010_00110000, .tCmpImm 2 48),
    (0b001_10_001_01011101, .tAddImm8 1 93),
    (0b001_11_000_10001010, .tSubImm8 0 138),
    (0b010000_0010_000_101, .tLslReg 0 5),
    (0b010000_0011_111_100, .tLsrReg 7 4),
    (0b010000_0100_110_011, .tAsrReg 6 3),
    (0b010000_1010_000_101, .tCmpReg 0 5),
    (0b010001_00_1_0_010_111, .tAddHigh 15 2)] : List (BitVec 16 × Instr)).all (fun x => decodeThumbHalf x.1 == some x.2) = true := by
  decide +kernel

theorem test_decode_thumb_arithmetic_2 : ([
    (0b010001_01_1_0_001_110, .tCmpHigh 14 1),
    (0b010001_10_1_0_111_100, .tMovHigh 12 7),
    (0b1010_0_000_10010010, .tAddPc 0 146),
    (0b1010_1_111_10111111, .tAddSp 7 191),
    (0b1011_0000_0_1101100, .tAddSpImm 108),
    (0b1011_0000_1_0011001, .tSubSpImm 25)] : List (BitVec 16 × Instr)).all (fun x => decodeThumbHalf x.1 == some x.2) = true := by
  decide +kernel

theorem test_decode_thumb_logic_1 : ([
    (0b010000_0000_010_111, .tAnd 2 7),
    (0b010000_0001_001_110, .tEor 1 6),
    (0b010000_0101_101_010, .tAdc 5 2),
    (0b010000_0110_100_001, .tSbc 4 1),
    (0b010000_0111_011_000, .tRor 3 0),
    (0b010000_1000_010_111, .tTst 2 7),
    (0b010000_1001_001_110, .tNeg 1 6),
    (0b010000_1011_111_100, .tCmn 7 4),
    (0b010000_1100_110_011, .tOrr 6 3),
    (0b010000_1101_101_010, .tMul 5 2),
    (0b010000_1110_100_001, .tBic 4 1),
    (0b010000_1111_011_000, .tMvn 3 0),
    (0b010001_10_0_0_000_101, .tCpy 5 0),
    (0b1011_0010_00_111_100, .tSxth 7 4),
    (0b1011_0010_01_110_011, .tSxtb 6 3),
    (0b1011_0010_10_101_010, .tUxth 5 2)] : List (BitVec 16 × Instr)).all (fun x => decodeThumbHalf x.1 == some x.2) = true := by
  decide +kernel

theorem test_decode_thumb_logic_2 : ([
    (0b1011_0010_11_100_001, .tUxtb 4 1),
    (0b1011_1010_00_011_000, .tRev 3 0),
    (0b1011_1010_01_010_111, .tRev16 2 7),
    (0b1011_1010_11_001_110, .tRevsh 1 6)] : List (BitVec 16 × Instr)).all (fun x => decodeThumbHalf x.1 == some x.2) = true := by
  decide +kernel

theorem test_decode_thumb_branch_system : ([
    (0b010001_11_0_1100_000, .tBx 12),
    (0b010001_11_1_0011_000, .tBlxReg 3),
    (0b1011_0110_0101_0_000, .tSetend false),
    (0b1011_0110_011_0_0_0_1_0, .tCps false false true false),
    (0b1011_1110_00110101, .tBkpt 53),
    (0b1101_1010_10111100, .tBCond .ge 188),
    (0b1101_1110_11101001, .tUndefined 233),
    (0b1101_1111_00010110, .tSwi 22),
    (0b11100_11001000011, .tB 1603),
    (0b11101_1110010101_0, .tBlxSuffix 917),
    (0b11110_00010011101, .tBlBlxPrefix 157),
    (0b11111_00111001010, .tBlSuffix 458)] : List (BitVec 16 × Instr)).all (fun x => decodeThumbHalf x.1 == some x.2) = true := by
  decide +kernel

theorem test_decode_thumb_memory_1 : ([
    (0b01001_001_10010101, .tLdrPc 1 149),
    (0b0101_000_110_011_000, .tStrReg 6 3 0),
    (0b0101_001_101_010_111, .tStrhReg 5 2 7),
    (0b0101_010_100_001_110, .tStrbReg 4 1 6),
    (0b0101_011_011_000_101, .tLdrsbReg 3 0 5),
    (0b0101_100_010_111_100, .tLdrReg 2 7 4),
    (0b0101_101_001_110_011, .tLdrhReg 1 6 3),
    (0b0101_110_000_101_010, .tLdrbReg 0 5 2),
    (0b0101_111_111_100_001, .tLdrshReg 7 4 1),
    (0b0110_0_01000_011_000, .tStrImm 8 3 0),
    (0b0110_1_10101_010_111, .tLdrImm 21 2 7),
    (0b0111_0_00010_001_110, .tStrbImm 2 1 6),
    (0b0111_1_01111_000_101, .tLdrbImm 15 0 5),
    (0b1000_0_11100_111_100, .tStrhImm 28 7 4),
    (0b1000_1_01001_110_011, .tLdrhImm 9 6 3),
    (0b1001_0_010_00111000, .tStrSp 2 56)] : List (BitVec 16 × Instr)).all (fun x => decodeThumbHalf x.1 == some x.2) = true := by
  decide +kernel

theorem test_decode_thumb_memory_2 : ([
    (0b1001_1_001_01100101, .tLdrSp 1 101),
    (0b1011_0_10_1_10000001, .tPush true 129),
    (0b1011_1_10_0_10101110, .tPop false 174),
    (0b1100_0_000_01100010, .tStmia 0 98),
    (0b1100_1_111_10001111, .tLdmia 7 143)] : List (BitVec 16 × Instr)).all (fun x => decodeThumbHalf x.1 == some x.2) = true := by
  decide +kernel

theorem test_decode_pairs :
    decodeThumbPair 0b11110_00000000001 0b11111_00000000010 = some (.tBl 1 2) ∧
    decodeThumbPair 0b11110_11111111111 0b11101_0000000010_0 = some (.tBlx 0x7FF 2) ∧
    decodeThumbPair 0b11110_00000000001 0b11101_0000000010_1 = none := by decide +kernel

/-- Words that match no row are refused: R158, R173. -/
theorem test_decode_unlisted :
    decodeArm 0xE7F000F0 = none ∧ decodeArm 0xF0000000 = none ∧ decodeThumbHalf 0xB100 = none := by decide +kernel

/-- The numbering of the opcode table: 32 bits are ARM, 16 bits are Thumb. -/
theorem test_decodeTableWord :
    decodeTableWord 32 0xE1A00001 = some (.mov .al false 0 (.shiftImm ⟨0, .lsl, 1⟩)) ∧
    decodeTableWord 16 0x4608 = some (.tCpy 0 1) := by decide +kernel

/-- An instruction put where the step fetches is the first one to run. -/
theorem test_withFetchWord :
    step (State.reset.withFetchWord 32 0xE3A00005) =
      exec (.mov .al false 0 (.imm ⟨0, 5⟩)) (State.reset.withFetchWord 32 0xE3A00005) ∧
    step (State.reset.withFetchWord 16 0x2005) = exec (.tMovImm 0 5) (State.reset.withFetchWord 16 0x2005) :=
  ⟨rfl, rfl⟩

/-! ## Steps: worked vectors of spec/95_test_vectors.md and spec/96_test_vectors_derived.md -/

/-- One vector: pc, cpsr, CP15 c1, an outstanding exclusive access, copies of registers, spsrs and words before the step
(the instruction among the words); then pc, cpsr and what changed after it. -/
structure Vec where
  pc : Word
  cpsr : Word
  cp15c1 : Word
  excl : Option Word
  regs : List (Nat × Word)
  spsr : List (Nat × Word)
  words : List (Word × Word)
  pcAfter : Word
  cpsrAfter : Word
  regsAfter : List (Nat × Word)
  spsrAfter : List (Nat × Word)
  wordsAfter : List (Word × Word)

/-- The state with copies of registers, spsrs and words set. -/
def put (s : State) (regs spsr : List (Nat × Word)) (words : List (Word × Word)) : State :=
  words.foldl (fun s x => s.setBytes x.1 (wordBytes x.2))
    { s with regs := regs.foldl (fun r x => r.setIfInBounds x.1 x.2) s.regs
             spsr := spsr.foldl (fun r x => r.setIfInBounds x.1 x.2) s.spsr }

/-- The state before the step. -/
def Vec.start (v : Vec) : State :=
  put { State.reset with pc := v.pc, cpsr := v.cpsr, cp15c1 := v.cp15c1, exclOutstanding := v.excl } v.regs v.spsr v.words

/-- The step changes what the vector says and no other register, spsr or byte. -/
def Vec.ok (v : Vec) : Bool :=
  let u := put { v.start with pc := v.pcAfter, cpsr := v.cpsrAfter } v.regsAfter v.spsrAfter v.wordsAfter
  match step v.start with
  | .next t => t.regs == u.regs && t.spsr == u.spsr && t.pc == u.pc && t.cpsr == u.cpsr && t.mem == u.mem
  | .fault _ | .refused _ => false

/-- ANDS r0, r0, #1<<31; EOR r0, r0, #1<<16; SUBS r0, r0, #1; RSBS r0, r0, #0; ADDS r0, r2, r2; ADCS r0, r0, r0; SBCS
r0, r1, r2; RSCS r0, r1, #0; TST r0, #0xFF; TEQ r0, #1; CMP r0, r1, LSR #2; CMN r0, #3. -/
theorem test_step_data_processing_1 : ([
  ⟨0x8000, 0x10, 0, none, [(0, 0x80000001)], [], [(0x8000, 0xe2100102)],
    0x8004, 0xa0000010, [(0, 0x80000000)], [], []⟩,
  ⟨0x8000, 0x10, 0, none, [(0, 0x10001)], [], [(0x8000, 0xe2200801)],
    0x8004, 0x10, [(0, 1)], [], []⟩,
  ⟨0x8000, 0x10, 0, none, [], [], [(0x8000, 0xe2500001)],
    0x8004, 0x80000010, [(0, 0xffffffff)], [], []⟩,
  ⟨0x8000, 0x10, 0, none, [(0, 1)], [], [(0x8000, 0xe2700000)],
    0x8004, 0x80000010, [(0, 0xffffffff)], [], []⟩,
  ⟨0x8000, 0x10, 0, none, [(2, 0x40000000)], [], [(0x8000, 0xe0920002)],
    0x8004, 0x90000010, [(0, 0x80000000)], [], []⟩,
  ⟨0x8000, 0x20000010, 0, none, [(0, 0x80000001)], [], [(0x8000, 0xe0b00000)],
    0x8004, 0x30000010, [(0, 3)], [], []⟩,
  ⟨0x8000, 0x10, 0, none, [], [], [(0x8000, 0xe0d10002)],
    0x8004, 0x80000010, [(0, 0xffffffff)], [], []⟩,
  ⟨0x8000, 0x10, 0, none, [], [], [(0x8000, 0xe2f10000)],
    0x8004, 0x80000010, [(0, 0xffffffff)], [], []⟩,
  ⟨0x8000, 0x10, 0, none, [(0, 0x1200)], [], [(0x8000, 0xe31000ff)],
    0x8004, 0x40000010, [], [], []⟩,
  ⟨0x8000, 0x30000010, 0, none, [(0, 1)], [], [(0x8000, 0xe3300001)],
    0x8004, 0x70000010, [], [], []⟩,
  ⟨0x8000, 0x10, 0, none, [(0, 3), (1, 0xc)], [], [(0x8000, 0xe1500121)],
    0x8004, 0x60000010, [], [], []⟩,
  ⟨0x8000, 0x10, 0, none, [(0, 0xfffffffc)], [], [(0x8000, 0xe3700003)],
    0x8004, 0x80000010, [], [], []⟩] : List Vec).all Vec.ok = true := by
  decide +kernel

/-- ORR r0, r0, #1<<13; MOVS r0, #0xFF000000; BIC r0, r0, #1<<22; MVN r0, #0xff; CLZ r1, r0. -/
theorem test_step_data_processing_2 : ([
  ⟨0x8000, 0x10, 0, none, [], [], [(0x8000, 0xe3800a02)],
    0x8004, 0x10, [(0, 0x2000)], [], []⟩,
  ⟨0x8000, 0x10, 0, none, [], [], [(0x8000, 0xe3b004ff)],
    0x8004, 0xa0000010, [(0, 0xff000000)], [], []⟩,
  ⟨0x8000, 0x10, 0, none, [(0, 0xffffffff)], [], [(0x8000, 0xe3c00501)],
    0x8004, 0x10, [(0, 0xffbfffff)], [], []⟩,
  ⟨0x8000, 0x10, 0, none, [], [], [(0x8000, 0xe3e000ff)],
    0x8004, 0x10, [(0, 0xffffff00)], [], []⟩,
  ⟨0x8000, 0x10, 0, none, [(0, 0x10000)], [], [(0x8000, 0xe16f1f10)],
    0x8004, 0x10, [(1, 0xf)], [], []⟩] : List Vec).all Vec.ok = true := by
  decide +kernel

/-- MUL r0, r1, r2; MLA r0, r1, r2, r3; UMAAL r0, r1, r2, r3; UMULL r0, r1, r2, r3; UMLAL r0, r1, r2, r3; SMULL r0,
r1, r2, r3; SMLAL r0, r1, r2, r3; SMLABB r0, r1, r2, r0; SMLAWB r0, r1, r2, r0; SMULWB r0, r1, r2; SMLALTB r0, r1, r2,
r3; SMULBB r0, r1, r2. -/
theorem test_step_multiply_1 : ([
  ⟨0x8000, 0x10, 0, none, [(1, 0xffffffff), (2, 2)], [], [(0x8000, 0xe0000291)],
    0x8004, 0x10, [(0, 0xfffffffe)], [], []⟩,
  ⟨0x8000, 0x10, 0, none, [(1, 3), (2, 4), (3, 5)], [], [(0x8000, 0xe0203291)],
    0x8004, 0x10, [(0, 0x11)], [], []⟩,
  ⟨0x8000, 0x10, 0, none, [(0, 5), (1, 7), (2, 3), (3, 4)], [], [(0x8000, 0xe0410392)],
    0x8004, 0x10, [(0, 0x18), (1, 0)], [], []⟩,
  ⟨0x8000, 0x10, 0, none, [(2, 0xffffffff), (3, 0xffffffff)], [], [(0x8000, 0xe0810392)],
    0x8004, 0x10, [(0, 1), (1, 0xfffffffe)], [], []⟩,
  ⟨0x8000, 0x10, 0, none, [(0, 0xffffffff), (2, 1), (3, 1)], [], [(0x8000, 0xe0a10392)],
    0x8004, 0x10, [(0, 0), (1, 1)], [], []⟩,
  ⟨0x8000, 0x10, 0, none, [(2, 0xffffffff), (3, 2)], [], [(0x8000, 0xe0c10392)],
    0x8004, 0x10, [(0, 0xfffffffe), (1, 0xffffffff)], [], []⟩,
  ⟨0x8000, 0x10, 0, none, [(0, 0xffffffff), (1, 0x7fffffff), (2, 1), (3, 1)], [], [(0x8000, 0xe0e10392)],
    0x8004, 0x10, [(0, 0), (1, 0x80000000)], [], []⟩,
  ⟨0x8000, 0x10, 0, none, [(0, 0x7fffffff), (1, 1), (2, 1)], [], [(0x8000, 0xe1000281)],
    0x8004, 0x8000010, [(0, 0x80000000)], [], []⟩,
  ⟨0x8000, 0x10, 0, none, [(1, 0x30000), (2, 2)], [], [(0x8000, 0xe1200281)],
    0x8004, 0x10, [(0, 6)], [], []⟩,
  ⟨0x8000, 0x10, 0, none, [(1, 0x80000000), (2, 0x8000)], [], [(0x8000, 0xe12002a1)],
    0x8004, 0x10, [(0, 0x40000000)], [], []⟩,
  ⟨0x8000, 0x10, 0, none, [(2, 0xffff0000), (3, 5)], [], [(0x8000, 0xe14103a2)],
    0x8004, 0x10, [(0, 0xfffffffb), (1, 0xffffffff)], [], []⟩,
  ⟨0x8000, 0x10, 0, none, [(1, 0x1234fffe), (2, 3)], [], [(0x8000, 0xe1600281)],
    0x8004, 0x10, [(0, 0xfffffffa)], [], []⟩] : List Vec).all Vec.ok = true := by
  decide +kernel

/-- SMLAD r0, r1, r2, r3; SMUAD r0, r1, r2; SMLSD r0, r1, r2, r0; SMUSD r0, r1, r2; SMLALD r0, r1, r2, r3; SMLSLD r0,
r1, r2, r3; SMMLA r0, r1, r2, r3; SMMULR r0, r1, r2; SMMLS r0, r1, r2, r3. -/
theorem test_step_multiply_2 : ([
  ⟨0x8000, 0x10, 0, none, [(1, 0x80008000), (2, 0x80008000)], [], [(0x8000, 0xe7003211)],
    0x8004, 0x8000010, [(0, 0x80000000)], [], []⟩,
  ⟨0x8000, 0x10, 0, none, [(1, 0x80008000), (2, 0x80008000)], [], [(0x8000, 0xe700f211)],
    0x8004, 0x8000010, [(0, 0x80000000)], [], []⟩,
  ⟨0x8000, 0x10, 0, none, [(0, 0x64), (1, 0x30002), (2, 0x50004)], [], [(0x8000, 0xe7000251)],
    0x8004, 0x10, [(0, 0x5d)], [], []⟩,
  ⟨0x8000, 0x10, 0, none, [(1, 0x20003), (2, 0x40005)], [], [(0x8000, 0xe700f251)],
    0x8004, 0x10, [(0, 7)], [], []⟩,
  ⟨0x8000, 0x10, 0, none, [(0, 0xffffffff), (2, 0x10001), (3, 0x10001)], [], [(0x8000, 0xe7410312)],
    0x8004, 0x10, [(0, 1), (1, 1)], [], []⟩,
  ⟨0x8000, 0x10, 0, none, [(2, 0x20001), (3, 0x30001)], [], [(0x8000, 0xe7410352)],
    0x8004, 0x10, [(0, 0xfffffffb), (1, 0xffffffff)], [], []⟩,
  ⟨0x8000, 0x10, 0, none, [(1, 0x10000), (2, 0x10000), (3, 5)], [], [(0x8000, 0xe7503211)],
    0x8004, 0x10, [(0, 6)], [], []⟩,
  ⟨0x8000, 0x10, 0, none, [(1, 0x40000000), (2, 0x40000000)], [], [(0x8000, 0xe750f231)],
    0x8004, 0x10, [(0, 0x10000000)], [], []⟩,
  ⟨0x8000, 0x10, 0, none, [(1, 1), (2, 1), (3, 5)], [], [(0x8000, 0xe75032d1)],
    0x8004, 0x10, [(0, 4)], [], []⟩] : List Vec).all Vec.ok = true := by
  decide +kernel

/-- STRH r0, [r1], #4; LDRH r0, [r1]; LDRD r2, [r1]; STRD r2, [r1, #-8]!; LDRSB r0, [r2, #55]; LDRSH r0, [r1], #4; SWP
r0, r1, [r2]; STREX r2, r0, [r1]; LDREX r0, [r1]; STR r0, [r0]; LDRCC pc, [pc, r0, LSL #2]; LDRT r0, [r1], #4. -/
theorem test_step_load_store_1 : ([
  ⟨0x8000, 0x10, 0, none, [(0, 0xaabbccdd), (1, 0x1000)], [], [(0x8000, 0xe0c100b4)],
    0x8004, 0x10, [(1, 0x1004)], [], [(0x1000, 0xccdd)]⟩,
  ⟨0x8000, 0x10, 0, none, [(1, 0x1002)], [], [(0x1000, 0x11223344), (0x1004, 0x55667788), (0x8000, 0xe1d100b0)],
    0x8004, 0x10, [(0, 0x1122)], [], []⟩,
  ⟨0x8000, 0x10, 0, none, [(1, 0x1000)], [], [(0x1000, 0xaaaa0001), (0x1004, 0xbbbb0002), (0x8000, 0xe1c120d0)],
    0x8004, 0x10, [(2, 0xaaaa0001), (3, 0xbbbb0002)], [], []⟩,
  ⟨0x8000, 0x10, 0, none, [(1, 0x1010), (2, 1), (3, 2)], [], [(0x8000, 0xe16120f8)],
    0x8004, 0x10, [(1, 0x1008)], [], [(0x1008, 1), (0x100c, 2)]⟩,
  ⟨0x8000, 0x10, 0, none, [(2, 0x1000)], [], [(0x1034, 0x80000000), (0x8000, 0xe1d203d7)],
    0x8004, 0x10, [(0, 0xffffff80)], [], []⟩,
  ⟨0x8000, 0x10, 0, none, [(1, 0x1000)], [], [(0x1000, 0x8001), (0x8000, 0xe0d100f4)],
    0x8004, 0x10, [(0, 0xffff8001), (1, 0x1004)], [], []⟩,
  ⟨0x8000, 0x10, 0, none, [(1, 9), (2, 0x1000)], [], [(0x1000, 5), (0x1004, 0x55667788), (0x8000, 0xe1020091)],
    0x8004, 0x10, [(0, 5)], [], [(0x1000, 9)]⟩,
  ⟨0x8000, 0x10, 0, none, [(0, 0x99), (1, 0x1000)], [], [(0x1000, 0x11223344), (0x1004, 0x55667788), (0x8000, 0xe1812f90)],
    0x8004, 0x10, [(2, 1)], [], []⟩,
  ⟨0x8000, 0x10, 0, none, [(1, 0x1000)], [], [(0x1000, 0x11223344), (0x1004, 0x55667788), (0x8000, 0xe1910f9f)],
    0x8004, 0x10, [(0, 0x11223344)], [], []⟩,
  ⟨0x8000, 0x10, 0, none, [(0, 0x1000)], [], [(0x8000, 0xe5800000)],
    0x8004, 0x10, [], [], [(0x1000, 0x1000)]⟩,
  ⟨0x8000, 0x10, 0, none, [(0, 1)], [], [(0x8000, 0x379ff100), (0x800c, 0x9001)],
    0x9000, 0x30, [], [], []⟩,
  ⟨0x8000, 0xd3, 0, none, [(1, 0x1000)], [], [(0x1000, 0x11223344), (0x1004, 0x55667788), (0x8000, 0xe4b10004)],
    0x8004, 0xd3, [(0, 0x11223344), (1, 0x1004)], [], []⟩] : List Vec).all Vec.ok = true := by
  decide +kernel

/-- STRB r0, [r1], -r2, LSL #8; LDRB r0, [r1, #-8]!; PLD [r0, #7]. -/
theorem test_step_load_store_2 : ([
  ⟨0x8000, 0x10, 0, none, [(0, 0x12345678), (1, 0x3000), (2, 2)], [], [(0x8000, 0xe6410402)],
    0x8004, 0x10, [(1, 0x2e00)], [], [(0x3000, 0x78)]⟩,
  ⟨0x8000, 0x10, 0, none, [(1, 0x2008)], [], [(0x2000, 0x80), (0x8000, 0xe5710008)],
    0x8004, 0x10, [(0, 0x80), (1, 0x2000)], [], []⟩,
  ⟨0x8000, 0x10, 0, none, [(0, 0x1000)], [], [(0x8000, 0xf5d0f007)],
    0x8004, 0x10, [], [], []⟩] : List Vec).all Vec.ok = true := by
  decide +kernel

/-- MRS r0, cpsr; MRS r0, spsr; MSR cpsr_f, #0xF0000000; MSR spsr_c, #0x10; BX lr; BXJ r0; BLX r0; BKPT 0x1234; B
label (label = 0x8100); BL subroutine (0x8010); SWINE 0x123456; CPS #0x13. -/
theorem test_step_branch_system_1 : ([
  ⟨0x8000, 0x600000d2, 0, none, [], [], [(0x8000, 0xe10f0000)],
    0x8004, 0x600000d2, [(0, 0x600000d2)], [], []⟩,
  ⟨0x8000, 0xd3, 0, none, [], [(2, 0x8000003f)], [(0x8000, 0xe14f0000)],
    0x8004, 0xd3, [(0, 0x8000003f)], [], []⟩,
  ⟨0x8000, 0x8000010, 0, none, [], [], [(0x8000, 0xe328f20f)],
    0x8004, 0xf0000010, [], [], []⟩,
  ⟨0x8000, 0xd3, 0, none, [], [(2, 0x600000d3)], [(0x8000, 0xe361f010)],
    0x8004, 0xd3, [], [(2, 0x60000010)], []⟩,
  ⟨0x8000, 0x10, 0, none, [(14, 0x8005)], [], [(0x8000, 0xe12fff1e)],
    0x8004, 0x30, [], [], []⟩,
  ⟨0x8000, 0x10, 0, none, [(0, 0x9001)], [], [(0x8000, 0xe12fff20)],
    0x9000, 0x30, [], [], []⟩,
  ⟨0x8000, 0x10, 0, none, [(0, 0x9001)], [], [(0x8000, 0xe12fff30)],
    0x9000, 0x30, [(14, 0x8004)], [], []⟩,
  ⟨0x8000, 0xd3, 0, none, [], [], [(0x8000, 0xe1212374)],
    0xc, 0x1d7, [(27, 0x8004)], [(3, 0xd3)], []⟩,
  ⟨0x8000, 0x10, 0, none, [], [], [(0x8000, 0xea00003e)],
    0x8100, 0x10, [], [], []⟩,
  ⟨0x8000, 0x10, 0, none, [], [], [(0x8000, 0xeb000002)],
    0x8010, 0x10, [(14, 0x8004)], [], []⟩,
  ⟨0x8000, 0x40000010, 0, none, [], [], [(0x8000, 0x1f123456)],
    0x8004, 0x40000010, [], [], []⟩,
  ⟨0x8000, 0x10, 0, none, [], [], [(0x8000, 0xf1020013)],
    0x8004, 0x10, [], [], []⟩] : List Vec).all Vec.ok = true := by
  decide +kernel

/-- CPSID i; SETEND BE; BLX thumb_code (0x8008). -/
theorem test_step_branch_system_2 : ([
  ⟨0x8000, 0x60000053, 0, none, [], [], [(0x8000, 0xf10c0080)],
    0x8004, 0x600000d3, [], [], []⟩,
  ⟨0x8000, 0x10, 0, none, [], [], [(0x8000, 0xf1010200)],
    0x8004, 0x210, [], [], []⟩,
  ⟨0x8000, 0x10, 0, none, [], [], [(0x8000, 0xfa000000)],
    0x8008, 0x30, [(14, 0x8004)], [], []⟩] : List Vec).all Vec.ok = true := by
  decide +kernel

/-- QADD r0, r1, r2; QSUB r0, r1, r2; QDADD r0, r0, r2; QDSUB r0, r1, r2; PKHBT r0, r1, r2, LSL #16; PKHTB r0, r2, r1,
ASR #16; SSAT r0, #16, r1; USAT r0, #8, r1; SSAT16 r0, #8, r1; USAT16 r0, #8, r1; SEL r0, r1, r2; REV r0, r0. -/
theorem test_step_media_1 : ([
  ⟨0x8000, 0x10, 0, none, [(1, 0x7fffffff), (2, 1)], [], [(0x8000, 0xe1020051)],
    0x8004, 0x8000010, [(0, 0x7fffffff)], [], []⟩,
  ⟨0x8000, 0x10, 0, none, [(2, 0x80000000)], [], [(0x8000, 0xe1220051)],
    0x8004, 0x8000010, [(0, 0x7fffffff)], [], []⟩,
  ⟨0x8000, 0x10, 0, none, [(0, 0x80000000), (2, 0x40000000)], [], [(0x8000, 0xe1420050)],
    0x8004, 0x8000010, [(0, 0xffffffff)], [], []⟩,
  ⟨0x8000, 0x10, 0, none, [(2, 0xc0000000)], [], [(0x8000, 0xe1620051)],
    0x8004, 0x8000010, [(0, 0x7fffffff)], [], []⟩,
  ⟨0x8000, 0x10, 0, none, [(1, 0x11112222), (2, 0x33334444)], [], [(0x8000, 0xe6810812)],
    0x8004, 0x10, [(0, 0x44442222)], [], []⟩,
  ⟨0x8000, 0x10, 0, none, [(1, 0x33334444), (2, 0x11112222)], [], [(0x8000, 0xe6820851)],
    0x8004, 0x10, [(0, 0x11113333)], [], []⟩,
  ⟨0x8000, 0x10, 0, none, [(1, 0x12345)], [], [(0x8000, 0xe6af0011)],
    0x8004, 0x8000010, [(0, 0x7fff)], [], []⟩,
  ⟨0x8000, 0x10, 0, none, [(1, 0x123)], [], [(0x8000, 0xe6e80011)],
    0x8004, 0x8000010, [(0, 0xff)], [], []⟩,
  ⟨0x8000, 0x10, 0, none, [(1, 0x100ff00)], [], [(0x8000, 0xe6a70f31)],
    0x8004, 0x8000010, [(0, 0x7fff80)], [], []⟩,
  ⟨0x8000, 0x10, 0, none, [(1, 0x100ff00)], [], [(0x8000, 0xe6e80f31)],
    0x8004, 0x8000010, [(0, 0xff0000)], [], []⟩,
  ⟨0x8000, 0x60010, 0, none, [(1, 0x10ff0380), (2, 0x20010290)], [], [(0x8000, 0xe6810fb2)],
    0x8004, 0x60010, [(0, 0x20ff0390)], [], []⟩,
  ⟨0x8000, 0x10, 0, none, [(0, 0x11223344)], [], [(0x8000, 0xe6bf0f30)],
    0x8004, 0x10, [(0, 0x44332211)], [], []⟩] : List Vec).all Vec.ok = true := by
  decide +kernel

/-- REV16 r0, r0; REVSH r0, r0; SXTAB16 r0, r2, r1; SXTB16 r0, r1, ROR #8; SXTAB r0, r2, r1; SXTB r0, r1, ROR #8;
SXTAH r0, r2, r1; SXTH r0, r1, ROR #8; UXTAB16 r0, r2, r1; UXTB16 r0, r1, ROR #8; UXTAB r0, r2, r1; UXTB r0, r1, ROR
#8. -/
theorem test_step_media_2 : ([
  ⟨0x8000, 0x10, 0, none, [(0, 0x11223344)], [], [(0x8000, 0xe6bf0fb0)],
    0x8004, 0x10, [(0, 0x22114433)], [], []⟩,
  ⟨0x8000, 0x10, 0, none, [(0, 0x11223380)], [], [(0x8000, 0xe6ff0fb0)],
    0x8004, 0x10, [(0, 0xffff8033)], [], []⟩,
  ⟨0x8000, 0x10, 0, none, [(1, 0x12f384a5), (2, 0xffffff)], [], [(0x8000, 0xe6820071)],
    0x8004, 0x10, [(0, 0xf2ffa4)], [], []⟩,
  ⟨0x8000, 0x10, 0, none, [(1, 0x12f384a5)], [], [(0x8000, 0xe68f0471)],
    0x8004, 0x10, [(0, 0x12ff84)], [], []⟩,
  ⟨0x8000, 0x10, 0, none, [(1, 0x12f384a5), (2, 0xffffff)], [], [(0x8000, 0xe6a20071)],
    0x8004, 0x10, [(0, 0xffffa4)], [], []⟩,
  ⟨0x8000, 0x10, 0, none, [(1, 0x12f384a5)], [], [(0x8000, 0xe6af0471)],
    0x8004, 0x10, [(0, 0xffffff84)], [], []⟩,
  ⟨0x8000, 0x10, 0, none, [(1, 0x12f384a5), (2, 0xffffff)], [], [(0x8000, 0xe6b20071)],
    0x8004, 0x10, [(0, 0xff84a4)], [], []⟩,
  ⟨0x8000, 0x10, 0, none, [(1, 0x12f384a5)], [], [(0x8000, 0xe6bf0471)],
    0x8004, 0x10, [(0, 0xfffff384)], [], []⟩,
  ⟨0x8000, 0x10, 0, none, [(1, 0x12f384a5), (2, 0xffffff)], [], [(0x8000, 0xe6c20071)],
    0x8004, 0x10, [(0, 0x1f200a4)], [], []⟩,
  ⟨0x8000, 0x10, 0, none, [(1, 0x12f384a5)], [], [(0x8000, 0xe6cf0471)],
    0x8004, 0x10, [(0, 0x120084)], [], []⟩,
  ⟨0x8000, 0x10, 0, none, [(1, 0x12f384a5), (2, 0xffffff)], [], [(0x8000, 0xe6e20071)],
    0x8004, 0x10, [(0, 0x10000a4)], [], []⟩,
  ⟨0x8000, 0x10, 0, none, [(1, 0x12f384a5)], [], [(0x8000, 0xe6ef0471)],
    0x8004, 0x10, [(0, 0x84)], [], []⟩] : List Vec).all Vec.ok = true := by
  decide +kernel

/-- UXTAH r0, r2, r1; UXTH r0, r1, ROR #8; USADA8 r0, r1, r2, r3; USAD8 r0, r1, r2. -/
theorem test_step_media_3 : ([
  ⟨0x8000, 0x10, 0, none, [(1, 0x12f384a5), (2, 0xffffff)], [], [(0x8000, 0xe6f20071)],
    0x8004, 0x10, [(0, 0x10084a4)], [], []⟩,
  ⟨0x8000, 0x10, 0, none, [(1, 0x12f384a5)], [], [(0x8000, 0xe6ff0471)],
    0x8004, 0x10, [(0, 0xf384)], [], []⟩,
  ⟨0x8000, 0x10, 0, none, [(0, 5), (1, 2), (2, 1), (3, 0xffffffff)], [], [(0x8000, 0xe7803211)],
    0x8004, 0x10, [(0, 0)], [], []⟩,
  ⟨0x8000, 0x10, 0, none, [(1, 0x10ff0380), (2, 0x20010290)], [], [(0x8000, 0xe780f211)],
    0x8004, 0x10, [(0, 0x11f)], [], []⟩] : List Vec).all Vec.ok = true := by
  decide +kernel

/-- QADD16 r0, r1, r2; QADDSUBX r0, r1, r2; QSUBADDX r0, r1, r2; QSUB16 r0, r1, r2; QADD8 r0, r1, r2; QSUB8 r0, r1,
r2; UQADD16 r0, r1, r2; UQADDSUBX r0, r1, r2; UQSUBADDX r0, r1, r2; UQSUB16 r0, r1, r2; UQADD8 r0, r1, r2; UQSUB8 r0,
r1, r2. -/
theorem test_step_parallel_1 : ([
  ⟨0x8000, 0x10, 0, none, [(1, 0x7fff8000), (2, 0x18000)], [], [(0x8000, 0xe6210f12)],
    0x8004, 0x8000010, [(0, 0x7fff8000)], [], []⟩,
  ⟨0x8000, 0x10, 0, none, [(1, 0x7fff8000), (2, 0x18000)], [], [(0x8000, 0xe6210f32)],
    0x8004, 0x8000010, [(0, 0xffff8000)], [], []⟩,
  ⟨0x8000, 0x10, 0, none, [(1, 0x7fff8000), (2, 0x18000)], [], [(0x8000, 0xe6210f52)],
    0x8004, 0x8000010, [(0, 0x7fff8001)], [], []⟩,
  ⟨0x8000, 0x10, 0, none, [(1, 0x7fff8000), (2, 0x18000)], [], [(0x8000, 0xe6210f72)],
    0x8004, 0x10, [(0, 0x7ffe0000)], [], []⟩,
  ⟨0x8000, 0x10, 0, none, [(1, 0x7f80ff10), (2, 0x180027f)], [], [(0x8000, 0xe6210f92)],
    0x8004, 0x8000010, [(0, 0x7f80017f)], [], []⟩,
  ⟨0x8000, 0x10, 0, none, [(1, 0x7f80ff10), (2, 0x180027f)], [], [(0x8000, 0xe6210ff2)],
    0x8004, 0x10, [(0, 0x7e00fd91)], [], []⟩,
  ⟨0x8000, 0x10, 0, none, [(1, 0x7fff8000), (2, 0x18000)], [], [(0x8000, 0xe6610f12)],
    0x8004, 0x8000010, [(0, 0x8000ffff)], [], []⟩,
  ⟨0x8000, 0x10, 0, none, [(1, 0x7fff8000), (2, 0x18000)], [], [(0x8000, 0xe6610f32)],
    0x8004, 0x10, [(0, 0xffff7fff)], [], []⟩,
  ⟨0x8000, 0x10, 0, none, [(1, 0x7fff8000), (2, 0x18000)], [], [(0x8000, 0xe6610f52)],
    0x8004, 0x8000010, [(0, 0x8001)], [], []⟩,
  ⟨0x8000, 0x10, 0, none, [(1, 0x7fff8000), (2, 0x18000)], [], [(0x8000, 0xe6610f72)],
    0x8004, 0x10, [(0, 0x7ffe0000)], [], []⟩,
  ⟨0x8000, 0x10, 0, none, [(1, 0x7f80ff10), (2, 0x180027f)], [], [(0x8000, 0xe6610f92)],
    0x8004, 0x8000010, [(0, 0x80ffff8f)], [], []⟩,
  ⟨0x8000, 0x10, 0, none, [(1, 0x7f80ff10), (2, 0x180027f)], [], [(0x8000, 0xe6610ff2)],
    0x8004, 0x8000010, [(0, 0x7e00fd00)], [], []⟩] : List Vec).all Vec.ok = true := by
  decide +kernel

/-- SADD16 r0, r1, r2; SADDSUBX r0, r1, r2; SSUBADDX r0, r1, r2; SSUB16 r0, r1, r2; SADD8 r0, r1, r2; SSUB8 r0, r1,
r2; UADD16 r0, r1, r2; UADDSUBX r0, r1, r2; USUBADDX r0, r1, r2; USUB16 r0, r1, r2; UADD8 r0, r1, r2; USUB8 r0, r1,
r2. -/
theorem test_step_parallel_2 : ([
  ⟨0x8000, 0x10, 0, none, [(1, 0x7fff8000), (2, 0x18000)], [], [(0x8000, 0xe6110f12)],
    0x8004, 0xc0010, [(0, 0x80000000)], [], []⟩,
  ⟨0x8000, 0x10, 0, none, [(1, 0x30002), (2, 0x50004)], [], [(0x8000, 0xe6110f32)],
    0x8004, 0xc0010, [(0, 0x7fffd)], [], []⟩,
  ⟨0x8000, 0x10, 0, none, [(1, 0x7fff8000), (2, 0x18000)], [], [(0x8000, 0xe6110f52)],
    0x8004, 0xc0010, [(0, 0xffff8001)], [], []⟩,
  ⟨0x8000, 0x10, 0, none, [(1, 0x7fff8000), (2, 0x18000)], [], [(0x8000, 0xe6110f72)],
    0x8004, 0xf0010, [(0, 0x7ffe0000)], [], []⟩,
  ⟨0x8000, 0x10, 0, none, [(1, 0x7f80ff10), (2, 0x180027f)], [], [(0x8000, 0xe6110f92)],
    0x8004, 0xb0010, [(0, 0x8000018f)], [], []⟩,
  ⟨0x8000, 0x10, 0, none, [(1, 0x7f80ff10), (2, 0x180027f)], [], [(0x8000, 0xe6110ff2)],
    0x8004, 0xc0010, [(0, 0x7e00fd91)], [], []⟩,
  ⟨0x8000, 0x10, 0, none, [(1, 0x7fff8000), (2, 0x18000)], [], [(0x8000, 0xe6510f12)],
    0x8004, 0x30010, [(0, 0x80000000)], [], []⟩,
  ⟨0x8000, 0x10, 0, none, [(1, 0x7fff8000), (2, 0x18000)], [], [(0x8000, 0xe6510f32)],
    0x8004, 0x30010, [(0, 0xffff7fff)], [], []⟩,
  ⟨0x8000, 0x10, 0, none, [(1, 0x7fff8000), (2, 0x18000)], [], [(0x8000, 0xe6510f52)],
    0x8004, 0x10, [(0, 0xffff8001)], [], []⟩,
  ⟨0x8000, 0x10, 0, none, [(1, 0x7fff8000), (2, 0x18000)], [], [(0x8000, 0xe6510f72)],
    0x8004, 0xf0010, [(0, 0x7ffe0000)], [], []⟩,
  ⟨0x8000, 0x10, 0, none, [(1, 0x7f80ff10), (2, 0x180027f)], [], [(0x8000, 0xe6510f92)],
    0x8004, 0x60010, [(0, 0x8000018f)], [], []⟩,
  ⟨0x8000, 0x10, 0, none, [(1, 0x7f80ff10), (2, 0x180027f)], [], [(0x8000, 0xe6510ff2)],
    0x8004, 0xe0010, [(0, 0x7e00fd91)], [], []⟩] : List Vec).all Vec.ok = true := by
  decide +kernel

/-- SHADD16 r0, r1, r2; SHADDSUBX r0, r1, r2; SHSUBADDX r0, r1, r2; SHSUB16 r0, r1, r2; SHADD8 r0, r1, r2; SHSUB8 r0,
r1, r2; UHADD16 r0, r1, r2; UHADDSUBX r0, r1, r2; UHSUBADDX r0, r1, r2; UHSUB16 r0, r1, r2; UHADD8 r0, r1, r2; UHSUB8
r0, r1, r2. -/
theorem test_step_parallel_3 : ([
  ⟨0x8000, 0x10, 0, none, [(1, 0x7fff8000), (2, 0x18000)], [], [(0x8000, 0xe6310f12)],
    0x8004, 0x10, [(0, 0x40008000)], [], []⟩,
  ⟨0x8000, 0x10, 0, none, [(1, 0x7fff8000), (2, 0x18000)], [], [(0x8000, 0xe6310f32)],
    0x8004, 0x10, [(0, 0xffffbfff)], [], []⟩,
  ⟨0x8000, 0x10, 0, none, [(1, 0x7fff8000), (2, 0x18000)], [], [(0x8000, 0xe6310f52)],
    0x8004, 0x10, [(0, 0x7fffc000)], [], []⟩,
  ⟨0x8000, 0x10, 0, none, [(1, 0x7fff8000), (2, 0x18000)], [], [(0x8000, 0xe6310f72)],
    0x8004, 0x10, [(0, 0x3fff0000)], [], []⟩,
  ⟨0x8000, 0x10, 0, none, [(1, 0x7f80ff10), (2, 0x180027f)], [], [(0x8000, 0xe6310f92)],
    0x8004, 0x10, [(0, 0x40800047)], [], []⟩,
  ⟨0x8000, 0x10, 0, none, [(1, 0x7f80ff10), (2, 0x180027f)], [], [(0x8000, 0xe6310ff2)],
    0x8004, 0x10, [(0, 0x3f00fec8)], [], []⟩,
  ⟨0x8000, 0x10, 0, none, [(1, 0x7fff8000), (2, 0x18000)], [], [(0x8000, 0xe6710f12)],
    0x8004, 0x10, [(0, 0x40008000)], [], []⟩,
  ⟨0x8000, 0x10, 0, none, [(1, 0x7fff8000), (2, 0x18000)], [], [(0x8000, 0xe6710f32)],
    0x8004, 0x10, [(0, 0x7fff3fff)], [], []⟩,
  ⟨0x8000, 0x10, 0, none, [(1, 0x7fff8000), (2, 0x18000)], [], [(0x8000, 0xe6710f52)],
    0x8004, 0x10, [(0, 0xffff4000)], [], []⟩,
  ⟨0x8000, 0x10, 0, none, [(1, 0x7fff8000), (2, 0x18000)], [], [(0x8000, 0xe6710f72)],
    0x8004, 0x10, [(0, 0x3fff0000)], [], []⟩,
  ⟨0x8000, 0x10, 0, none, [(1, 0x7f80ff10), (2, 0x180027f)], [], [(0x8000, 0xe6710f92)],
    0x8004, 0x10, [(0, 0x40808047)], [], []⟩,
  ⟨0x8000, 0x10, 0, none, [(1, 0x7f80ff10), (2, 0x180027f)], [], [(0x8000, 0xe6710ff2)],
    0x8004, 0x10, [(0, 0x3f007ec8)], [], []⟩] : List Vec).all Vec.ok = true := by
  decide +kernel

/-- LDMEQFD sp!, (r0, pc); LDMFD sp, (sp)^; LDMFD sp!, (r0-r12, pc)^; STMIA r4!, (r0, r1); STMFD sp, (sp)^; RFEIA sp!;
SRSDB #0x13!. -/
theorem test_step_multiple : ([
  ⟨0x8000, 0x40000010, 0, none, [(13, 0x2000)], [], [(0x2000, 7), (0x2004, 0x8001), (0x8000, 0x8bd8001)],
    0x8000, 0x40000030, [(0, 7), (13, 0x2008)], [], []⟩,
  ⟨0x8000, 0xd3, 0, none, [(24, 0x4000)], [], [(0x4000, 0x12340), (0x8000, 0xe8dd2000)],
    0x8004, 0xd3, [(13, 0x12340)], [], []⟩,
  ⟨0x8000, 0xd3, 0, none, [(24, 0x3fc8)], [(2, 0x60000010)], [(0x3fc8, 0x100), (0x3fcc, 0x101), (0x3fd0, 0x102), (0x3fd4, 0x103), (0x3fd8, 0x104), (0x3fdc, 0x105), (0x3fe0, 0x106), (0x3fe4, 0x107), (0x3fe8, 0x108), (0x3fec, 0x109), (0x3ff0, 0x10a), (0x3ff4, 0x10b), (0x3ff8, 0x10c), (0x3ffc, 0x8004), (0x4000, 0x10e), (0x4004, 0x10f), (0x8000, 0xe8fd9fff)],
    0x8004, 0x60000010, [(0, 0x100), (1, 0x101), (2, 0x102), (3, 0x103), (4, 0x104), (5, 0x105), (6, 0x106), (7, 0x107), (8, 0x108), (9, 0x109), (10, 0x10a), (11, 0x10b), (12, 0x10c), (24, 0x4000)], [], []⟩,
  ⟨0x8000, 0x10, 0, none, [(0, 1), (1, 2), (4, 0x1000)], [], [(0x8000, 0xe8a40003)],
    0x8004, 0x10, [(4, 0x1008)], [], [(0x1000, 1), (0x1004, 2)]⟩,
  ⟨0x8000, 0xd3, 0, none, [(13, 0x12340), (24, 0x4000)], [], [(0x8000, 0xe94d2000)],
    0x8004, 0xd3, [], [], [(0x3ffc, 0x12340)]⟩,
  ⟨0x8000, 0xd3, 0, none, [(24, 0x3ff8)], [], [(0x1000, 0xa0), (0x1004, 0xa1), (0x1008, 0xa2), (0x100c, 0xa3), (0x3ff8, 0x8004), (0x3ffc, 0x60000010), (0x8000, 0xf8bd0a00)],
    0x8004, 0x60000010, [(24, 0x4000)], [], []⟩,
  ⟨0x8000, 0xd2, 0, none, [(23, 0x8008), (24, 0x4000)], [(1, 0x60000010)], [(0x1000, 0xa0), (0x1004, 0xa1), (0x1008, 0xa2), (0x100c, 0xa3), (0x8000, 0xf96d0513)],
    0x8004, 0xd2, [(24, 0x3ff8)], [], [(0x3ff8, 0x8008), (0x3ffc, 0x60000010)]⟩] : List Vec).all Vec.ok = true := by
  decide +kernel

/-- STC p5, c1, [r2], #-4; LDC p5, c1, [r2, #8]!; MCRR p6, 3, r1, r2, c4; CDPEQ p7, ...; MCR p15, 0, r0, c1, c0, 0;
MRC p15, 0, pc, c1, c0, 0; CDP2 p7, 1, c2, c3, c4, 5. -/
theorem test_step_coprocessor : ([
  ⟨0x8000, 0x10, 0, none, [(2, 0x1000)], [], [(0x8000, 0xec221501)],
    4, 0x9b, [(29, 0x8004)], [(4, 0x10)], []⟩,
  ⟨0x8000, 0x10, 0, none, [(2, 0x1000)], [], [(0x8000, 0xedb21502)],
    4, 0x9b, [(29, 0x8004)], [(4, 0x10)], []⟩,
  ⟨0x8000, 0x10, 0, none, [], [], [(0x8000, 0xec421634)],
    4, 0x9b, [(29, 0x8004)], [(4, 0x10)], []⟩,
  ⟨0x8000, 0x10, 0, none, [], [], [(0x8000, 0xe1327a4)],
    0x8004, 0x10, [], [], []⟩,
  ⟨0x8000, 0xd3, 0, none, [(0, 0x400002)], [], [(0x8000, 0xee010f10)],
    0x8004, 0xd3, [], [], []⟩,
  ⟨0x8000, 0xf00000d3, 0x400002, none, [], [], [(0x8000, 0xee11ff10)],
    0x8004, 0xd3, [], [], []⟩,
  ⟨0x8000, 0x10, 0, none, [], [], [(0x8000, 0xfe1327a4)],
    4, 0x9b, [(29, 0x8004)], [(4, 0x10)], []⟩] : List Vec).all Vec.ok = true := by
  decide +kernel

/-- LSL r0, r1, #0; LSR r0, r1, #32; ASR r0, r1, #32; ADD r0, r1, r2; SUB r0, r1, r2; ADD r0, r1, #7; SUB r0, r1, #1;
MOV r0, #0; CMP r0, #1; ADD r0, #255; SUB r0, #1; AND r0, r1. -/
theorem test_step_thumb_low_1 : ([
  ⟨0x8000, 0x20000030, 0, none, [(1, 0x80000000)], [], [(0x8000, 8)],
    0x8002, 0xa0000030, [(0, 0x80000000)], [], []⟩,
  ⟨0x8000, 0x30, 0, none, [(0, 5), (1, 0x80000000)], [], [(0x8000, 0x808)],
    0x8002, 0x60000030, [(0, 0)], [], []⟩,
  ⟨0x8000, 0x30, 0, none, [(1, 0x80000000)], [], [(0x8000, 0x1008)],
    0x8002, 0xa0000030, [(0, 0xffffffff)], [], []⟩,
  ⟨0x8000, 0x30, 0, none, [(1, 0x7fffffff), (2, 1)], [], [(0x8000, 0x1888)],
    0x8002, 0x90000030, [(0, 0x80000000)], [], []⟩,
  ⟨0x8000, 0x30, 0, none, [(1, 5), (2, 7)], [], [(0x8000, 0x1a88)],
    0x8002, 0x80000030, [(0, 0xfffffffe)], [], []⟩,
  ⟨0x8000, 0x30, 0, none, [(0, 5), (1, 0xfffffff9)], [], [(0x8000, 0x1dc8)],
    0x8002, 0x60000030, [(0, 0)], [], []⟩,
  ⟨0x8000, 0x30, 0, none, [(1, 0x80000000)], [], [(0x8000, 0x1e48)],
    0x8002, 0x30000030, [(0, 0x7fffffff)], [], []⟩,
  ⟨0x8000, 0x30, 0, none, [(0, 5)], [], [(0x8000, 0x2000)],
    0x8002, 0x40000030, [(0, 0)], [], []⟩,
  ⟨0x8000, 0x30, 0, none, [], [], [(0x8000, 0x2801)],
    0x8002, 0x80000030, [], [], []⟩,
  ⟨0x8000, 0x30, 0, none, [(0, 0xffffff01)], [], [(0x8000, 0x30ff)],
    0x8002, 0x60000030, [(0, 0)], [], []⟩,
  ⟨0x8000, 0x30, 0, none, [(0, 1)], [], [(0x8000, 0x3801)],
    0x8002, 0x60000030, [(0, 0)], [], []⟩,
  ⟨0x8000, 0x30, 0, none, [(0, 0xf0f0f0f0), (1, 0xff00ff00)], [], [(0x8000, 0x4008)],
    0x8002, 0x80000030, [(0, 0xf000f000)], [], []⟩] : List Vec).all Vec.ok = true := by
  decide +kernel

/-- EOR r0, r1; LSL r0, r1; LSR r0, r1; ASR r0, r1; ADC r0, r1; SBC r0, r1; ROR r0, r1; TST r0, r1; NEG r0, r1; CMP
r0, r1; CMN r0, r1; ORR r0, r1. -/
theorem test_step_thumb_low_2 : ([
  ⟨0x8000, 0x30, 0, none, [(0, 0x12345678), (1, 0x12345678)], [], [(0x8000, 0x4048)],
    0x8002, 0x40000030, [(0, 0)], [], []⟩,
  ⟨0x8000, 0x30, 0, none, [(0, 1), (1, 0x20)], [], [(0x8000, 0x4088)],
    0x8002, 0x60000030, [(0, 0)], [], []⟩,
  ⟨0x8000, 0x30, 0, none, [(0, 0x80000000), (1, 0x21)], [], [(0x8000, 0x40c8)],
    0x8002, 0x40000030, [(0, 0)], [], []⟩,
  ⟨0x8000, 0x30, 0, none, [(0, 0x80000000), (1, 0x28)], [], [(0x8000, 0x4108)],
    0x8002, 0xa0000030, [(0, 0xffffffff)], [], []⟩,
  ⟨0x8000, 0x20000030, 0, none, [(0, 0xffffffff)], [], [(0x8000, 0x4148)],
    0x8002, 0x60000030, [(0, 0)], [], []⟩,
  ⟨0x8000, 0x30, 0, none, [], [], [(0x8000, 0x4188)],
    0x8002, 0x80000030, [(0, 0xffffffff)], [], []⟩,
  ⟨0x8000, 0x30, 0, none, [(0, 1), (1, 1)], [], [(0x8000, 0x41c8)],
    0x8002, 0xa0000030, [(0, 0x80000000)], [], []⟩,
  ⟨0x8000, 0x30, 0, none, [(0, 0xf), (1, 0xf0)], [], [(0x8000, 0x4208)],
    0x8002, 0x40000030, [], [], []⟩,
  ⟨0x8000, 0x30, 0, none, [(1, 0x80000000)], [], [(0x8000, 0x4248)],
    0x8002, 0x90000030, [(0, 0x80000000)], [], []⟩,
  ⟨0x8000, 0x30, 0, none, [(0, 0x80000000), (1, 1)], [], [(0x8000, 0x4288)],
    0x8002, 0x30000030, [], [], []⟩,
  ⟨0x8000, 0x30, 0, none, [(0, 0xfffffffd), (1, 3)], [], [(0x8000, 0x42c8)],
    0x8002, 0x60000030, [], [], []⟩,
  ⟨0x8000, 0x30, 0, none, [(0, 0xff00), (1, 0x80000000)], [], [(0x8000, 0x4308)],
    0x8002, 0x80000030, [(0, 0x8000ff00)], [], []⟩] : List Vec).all Vec.ok = true := by
  decide +kernel

/-- BIC r0, r1; MVN r0, r1. -/
theorem test_step_thumb_low_3 : ([
  ⟨0x8000, 0x30, 0, none, [(0, 0xffffffff), (1, 0xff)], [], [(0x8000, 0x4388)],
    0x8002, 0x80000030, [(0, 0xffffff00)], [], []⟩,
  ⟨0x8000, 0x30, 0, none, [], [], [(0x8000, 0x43c8)],
    0x8002, 0x80000030, [(0, 0xffffffff)], [], []⟩] : List Vec).all Vec.ok = true := by
  decide +kernel

/-- ADD r0, pc; CMP r8, r0; CPY r0, r1; MOV r8, r8; BX pc; BLX r0; ADD r0, pc, #4; ADD r0, sp, #1020; ADD sp, #508;
SUB sp, #8; SXTH r0, r1; SXTB r0, r1. -/
theorem test_step_thumb_other_1 : ([
  ⟨0x8002, 0x30, 0, none, [], [], [(0x8000, 0x44780000)],
    0x8004, 0x30, [(0, 0x8006)], [], []⟩,
  ⟨0x8000, 0x30, 0, none, [(0, 5), (8, 5)], [], [(0x8000, 0x4580)],
    0x8002, 0x60000030, [], [], []⟩,
  ⟨0x8000, 0x30, 0, none, [(1, 0x80000000)], [], [(0x8000, 0x4608)],
    0x8002, 0x30, [(0, 0x80000000)], [], []⟩,
  ⟨0x8000, 0x30, 0, none, [], [], [(0x8000, 0x46c0)],
    0x8002, 0x30, [], [], []⟩,
  ⟨0x8000, 0x30, 0, none, [], [], [(0x8000, 0x4778)],
    0x8004, 0x10, [], [], []⟩,
  ⟨0x8000, 0x30, 0, none, [(0, 0x9000)], [], [(0x8000, 0x4780)],
    0x9000, 0x10, [(14, 0x8003)], [], []⟩,
  ⟨0x8002, 0x30, 0, none, [], [], [(0x8000, 0xa0010000)],
    0x8004, 0x30, [(0, 0x8008)], [], []⟩,
  ⟨0x8000, 0x30, 0, none, [(13, 0x10000)], [], [(0x8000, 0xa8ff)],
    0x8002, 0x30, [(0, 0x103fc)], [], []⟩,
  ⟨0x8000, 0x30, 0, none, [(13, 0x10000)], [], [(0x8000, 0xb07f)],
    0x8002, 0x30, [(13, 0x101fc)], [], []⟩,
  ⟨0x8000, 0x30, 0, none, [(13, 0x10000)], [], [(0x8000, 0xb082)],
    0x8002, 0x30, [(13, 0xfff8)], [], []⟩,
  ⟨0x8000, 0x30, 0, none, [(1, 0x12348001)], [], [(0x8000, 0xb208)],
    0x8002, 0x30, [(0, 0xffff8001)], [], []⟩,
  ⟨0x8000, 0x30, 0, none, [(1, 0x12345680)], [], [(0x8000, 0xb248)],
    0x8002, 0x30, [(0, 0xffffff80)], [], []⟩] : List Vec).all Vec.ok = true := by
  decide +kernel

/-- UXTH r0, r1; UXTB r0, r1; REV r0, r1; REV16 r0, r1; REVSH r0, r1; SETEND BE; CPSID i; BKPT 0xAB; BEQ +4; B<cond =
1110>; SWI 0x11; B .. -/
theorem test_step_thumb_other_2 : ([
  ⟨0x8000, 0x30, 0, none, [(1, 0x12348001)], [], [(0x8000, 0xb288)],
    0x8002, 0x30, [(0, 0x8001)], [], []⟩,
  ⟨0x8000, 0x30, 0, none, [(1, 0x12345680)], [], [(0x8000, 0xb2c8)],
    0x8002, 0x30, [(0, 0x80)], [], []⟩,
  ⟨0x8000, 0x30, 0, none, [(1, 0x11223344)], [], [(0x8000, 0xba08)],
    0x8002, 0x30, [(0, 0x44332211)], [], []⟩,
  ⟨0x8000, 0x30, 0, none, [(1, 0x11223344)], [], [(0x8000, 0xba48)],
    0x8002, 0x30, [(0, 0x22114433)], [], []⟩,
  ⟨0x8000, 0x30, 0, none, [(1, 0x3380)], [], [(0x8000, 0xbac8)],
    0x8002, 0x30, [(0, 0xffff8033)], [], []⟩,
  ⟨0x8000, 0x30, 0, none, [], [], [(0x8000, 0xb658)],
    0x8002, 0x230, [], [], []⟩,
  ⟨0x8000, 0x33, 0, none, [], [], [(0x8000, 0xb672)],
    0x8002, 0xb3, [], [], []⟩,
  ⟨0x8000, 0x30, 0, none, [], [], [(0x8000, 0xbeab)],
    0xc, 0x197, [(27, 0x8004)], [(3, 0x30)], []⟩,
  ⟨0x8000, 0x40000030, 0, none, [], [], [(0x8000, 0xd000)],
    0x8004, 0x40000030, [], [], []⟩,
  ⟨0x8000, 0x30, 0, none, [], [], [(0x8000, 0xde00)],
    4, 0x9b, [(29, 0x8002)], [(4, 0x30)], []⟩,
  ⟨0x8000, 0x30, 0, none, [], [], [(0x8000, 0xdf11)],
    8, 0x93, [(25, 0x8002)], [(2, 0x30)], []⟩,
  ⟨0x8000, 0x30, 0, none, [], [], [(0x8000, 0xe7fe)],
    0x8000, 0x30, [], [], []⟩] : List Vec).all Vec.ok = true := by
  decide +kernel

/-- BL +0; BLX +0. -/
theorem test_step_thumb_other_3 : ([
  ⟨0x8000, 0x30, 0, none, [], [], [(0x8000, 0xf800f000)],
    0x8004, 0x30, [(14, 0x8005)], [], []⟩,
  ⟨0x8000, 0x30, 0, none, [], [], [(0x8000, 0xe800f000)],
    0x8004, 0x10, [(14, 0x8005)], [], []⟩] : List Vec).all Vec.ok = true := by
  decide +kernel

/-- LDR r0, [pc, #4]; STR r0, [r1, r2]; STRH r0, [r1, r2]; STRB r0, [r1, r2]; LDRSB r0, [r1, r2]; LDR r0, [r1, r2];
LDRH r0, [r1, r2]; LDRB r0, [r1, r2]; LDRSH r0, [r1, r2]; STR r0, [r1, #4]; LDR r0, [r1, #4]; STRB r0, [r1, #31]. -/
theorem test_step_thumb_memory_1 : ([
  ⟨0x8002, 0x30, 0, none, [], [], [(0x8000, 0x48010000), (0x8008, 0x12345678)],
    0x8004, 0x30, [(0, 0x12345678)], [], []⟩,
  ⟨0x8000, 0x30, 0, none, [(0, 0xaabbccdd), (1, 0x2000), (2, 8)], [], [(0x8000, 0x5088)],
    0x8002, 0x30, [], [], [(0x2008, 0xaabbccdd)]⟩,
  ⟨0x8000, 0x30, 0, none, [(0, 0xaabbccdd), (1, 0x2000), (2, 2)], [], [(0x8000, 0x5288)],
    0x8002, 0x30, [], [], [(0x2000, 0xccdd0000)]⟩,
  ⟨0x8000, 0x30, 0, none, [(0, 0xaabbccdd), (1, 0x2000), (2, 3)], [], [(0x8000, 0x5488)],
    0x8002, 0x30, [], [], [(0x2000, 0xdd000000)]⟩,
  ⟨0x8000, 0x30, 0, none, [(1, 0x1000), (2, 1)], [], [(0x1000, 0x8000), (0x8000, 0x5688)],
    0x8002, 0x30, [(0, 0xffffff80)], [], []⟩,
  ⟨0x8000, 0x30, 0, none, [(1, 0x1000), (2, 4)], [], [(0x1004, 0xcafef00d), (0x8000, 0x5888)],
    0x8002, 0x30, [(0, 0xcafef00d)], [], []⟩,
  ⟨0x8000, 0x30, 0, none, [(1, 0x1000), (2, 2)], [], [(0x1000, 0x12340000), (0x8000, 0x5a88)],
    0x8002, 0x30, [(0, 0x1234)], [], []⟩,
  ⟨0x8000, 0x30, 0, none, [(1, 0x1000), (2, 0xffffffff)], [], [(0xffc, 0x7e000000), (0x8000, 0x5c88)],
    0x8002, 0x30, [(0, 0x7e)], [], []⟩,
  ⟨0x8000, 0x30, 0, none, [(1, 0x1000), (2, 2)], [], [(0x1000, 0x80010000), (0x8000, 0x5e88)],
    0x8002, 0x30, [(0, 0xffff8001)], [], []⟩,
  ⟨0x8000, 0x30, 0, none, [(0, 0xaabbccdd), (1, 0x2000)], [], [(0x8000, 0x6048)],
    0x8002, 0x30, [], [], [(0x2004, 0xaabbccdd)]⟩,
  ⟨0x8000, 0x30, 0, none, [(1, 0x1000)], [], [(0x1004, 0xcafef00d), (0x8000, 0x6848)],
    0x8002, 0x30, [(0, 0xcafef00d)], [], []⟩,
  ⟨0x8000, 0x30, 0, none, [(0, 0x1ab), (1, 0x2000)], [], [(0x8000, 0x77c8)],
    0x8002, 0x30, [], [], [(0x201c, 0xab000000)]⟩] : List Vec).all Vec.ok = true := by
  decide +kernel

/-- LDRB r0, [r1, #1]; STRH r0, [r1, #62]; LDRH r0, [r1, #2]; STR r0, [sp, #1020]; LDR r0, [sp, #8]; PUSH (r4, lr);
POP (r4, pc); STMIA r4!, (r4, r5); LDMIA r4!, (r0, r1). -/
theorem test_step_thumb_memory_2 : ([
  ⟨0x8000, 0x30, 0, none, [(1, 0x1000)], [], [(0x1000, 0xff00), (0x8000, 0x7848)],
    0x8002, 0x30, [(0, 0xff)], [], []⟩,
  ⟨0x8000, 0x30, 0, none, [(0, 0xaabbccdd), (1, 0x2000)], [], [(0x8000, 0x87c8)],
    0x8002, 0x30, [], [], [(0x203c, 0xccdd0000)]⟩,
  ⟨0x8000, 0x30, 0, none, [(1, 0x1000)], [], [(0x1000, 0x12340000), (0x8000, 0x8848)],
    0x8002, 0x30, [(0, 0x1234)], [], []⟩,
  ⟨0x8000, 0x30, 0, none, [(0, 7), (13, 0x2000)], [], [(0x8000, 0x90ff)],
    0x8002, 0x30, [], [], [(0x23fc, 7)]⟩,
  ⟨0x8000, 0x30, 0, none, [(13, 0x2000)], [], [(0x2008, 0x42), (0x8000, 0x9802)],
    0x8002, 0x30, [(0, 0x42)], [], []⟩,
  ⟨0x8000, 0x30, 0, none, [(4, 0xa), (13, 0x2000), (14, 0x8005)], [], [(0x8000, 0xb510)],
    0x8002, 0x30, [(13, 0x1ff8)], [], [(0x1ff8, 0xa), (0x1ffc, 0x8005)]⟩,
  ⟨0x8000, 0x30, 0, none, [(13, 0x1ff8)], [], [(0x1ff8, 0xa), (0x1ffc, 0x8005), (0x8000, 0xbd10)],
    0x8004, 0x30, [(4, 0xa), (13, 0x2000)], [], []⟩,
  ⟨0x8000, 0x30, 0, none, [(4, 0x2000), (5, 2)], [], [(0x8000, 0xc430)],
    0x8002, 0x30, [(4, 0x2008)], [], [(0x2000, 0x2000), (0x2004, 2)]⟩,
  ⟨0x8000, 0x30, 0, none, [(4, 0x1000)], [], [(0x1000, 0xa), (0x1004, 0xb), (0x8000, 0xcc03)],
    0x8002, 0x30, [(0, 0xa), (1, 0xb), (4, 0x1008)], [], []⟩] : List Vec).all Vec.ok = true := by
  decide +kernel

/-- The forms without a vector, worked by hand from R328, R342, R343, R351, R547 and R633. -/
theorem test_step_forms_without_vector : ([
  ⟨0x8000, 0x10, 0, none, [(1, 0x1001), (2, 0x12345678)], [], [(0x8000, 0xE1410092), (0x1000, 0xAABBCCDD)],
    0x8004, 0x10, [(0, 0xCC)], [], [(0x1000, 0xAABB78DD)]⟩,
  ⟨0x8000, 0x13, 0, none, [(0, 0x11223344), (1, 0x1000)], [], [(0x8000, 0xE4A10004)],
    0x8004, 0x13, [(1, 0x1004)], [], [(0x1000, 0x11223344)]⟩,
  ⟨0x8000, 0x13, 0, none, [(0, 0x11223344), (1, 0x1001)], [], [(0x8000, 0xE4E10004)],
    0x8004, 0x13, [(1, 0x1005)], [], [(0x1000, 0x00004400)]⟩,
  ⟨0x8000, 0x13, 0, none, [(1, 0x1002)], [], [(0x8000, 0xE4710004), (0x1000, 0xAABBCCDD)],
    0x8004, 0x13, [(0, 0xBB), (1, 0xFFE)], [], []⟩,
  ⟨0x8000, 0x30, 0, none, [(14, 0x9001)], [], [(0x8000, 0x0000F802)], 0x9004, 0x30, [(14, 0x8003)], [], []⟩,
  ⟨0x8000, 0x30, 0, none, [(14, 0x9001)], [], [(0x8000, 0x0000E802)], 0x9004, 0x10, [(14, 0x8003)], [], []⟩] :
    List Vec).all Vec.ok = true := by decide +kernel

/-- Thumb MUL: 7 times 6; the cpsr, whose C is a free value, is not looked at (R547). -/
theorem test_step_thumb_mul :
    (match exec (.tMul 1 0) (put { State.reset with cpsr := 0x30 } [(0, 6), (1, 7)] [] []) with
      | .next t => t.regs[0] == 42 && t.pc == 2
      | .fault _ | .refused _ => false) = true := by decide +kernel

/-! ## Witnesses: states and operands that meet the hypotheses of the statements, at the ends of their ranges -/

/-- User mode, ARM state, the last word from which the pc can advance. -/
def arm : State := { State.reset with pc := 0xFFFFFFF8, cpsr := 0x10 }

/-- User mode, Thumb state, the last halfword from which the pc can advance. -/
def thumb : State := { State.reset with pc := 0xFFFFFFFC, cpsr := 0x30 }

/-- Supervisor mode, with A of CP15 c1 set, then with U set. -/
def strict : State := { State.reset with cp15c1 := 0x00000002 }
/-- With U of CP15 c1 set. -/
def mixed : State := { State.reset with cp15c1 := 0x00400000 }

/-- Every data access of `n` bytes aborts in supervisor mode. -/
def aborting (n : Nat) : State :=
  { State.reset with aborts := [⟨0, 0xFFFFFFFF, n, .read, true⟩, ⟨0, 0xFFFFFFFF, n, .write, true⟩] }

/-- A state with registers of the user bank set. -/
def State.with (s : State) (regs : List (Nat × Word)) : State := put s regs [] []

/-- The instruction answers a next state that passes a test. -/
def gives (i : Instr) (s : State) (p : State → Bool) : Bool :=
  match exec i s with
  | .next t => p t
  | .fault _ | .refused _ => false

/-- The instruction stops with a fault. -/
def faults (i : Instr) (s : State) (f : Fault) : Bool :=
  match exec i s with
  | .fault g => g == f
  | .next _ | .refused _ => false

/-- The instruction is an operation of p15 that is refused. -/
def refuses (i : Instr) (s : State) : Bool :=
  match exec i s with
  | .refused r => r == .cp15Operation
  | .next _ | .fault _ => false

/-- The instruction enters an exception from the state it found. -/
def enters (i : Instr) (s : State) (e : Exc) : Bool := gives i s fun t => t == enter e s

theorem witness_EveryStepKeepsTheInvariant :
    (State.reset.withFetchWord 32 0xE3A00005).Inv ∧ ∃ t, step (State.reset.withFetchWord 32 0xE3A00005) = .next t :=
  ⟨by unfold State.Inv; decide +kernel, _, rfl⟩

/-- The hypotheses of the step statement that its clauses share. -/
def quiet (s : State) : Bool :=
  s.mode?.isSome && !s.java && !s.resetPending && (!s.fiqPending || s.fiqMasked) && (!s.irqPending || s.irqMasked)

theorem witness_StepRunsTheDecodedInstruction :
    let a := { State.reset with pc := 0xFFFFFFFC }.withFetchWord 32 0xE3A00005
    let t := { State.reset with pc := 0xFFFFFFFE }.withFetchWord 16 0x2005
    let p := { State.reset with pc := 0xFFFFFFFC, cpsr := 0x1F3 }.setBytes 0xFFFFFFFC [0x00, 0xF0, 0x02, 0xF8]
    (quiet a = true ∧ a.thumb = false ∧ a.pc &&& 3 = 0 ∧ a.extAbort a.pc 4 .fetch a.privileged = false ∧
      decodeArm (a.byte (a.pc + 3) ++ a.byte (a.pc + 2) ++ a.byte (a.pc + 1) ++ a.byte (a.pc + 0)) =
        some (.mov .al false 0 (.imm ⟨0, 5⟩))) ∧
    ({ a with aborts := [⟨0, 0xFFFFFFFF, 4, .fetch, true⟩] } : State).extAbort a.pc 4 .fetch true = true ∧
    (quiet t = true ∧ t.thumb = true ∧ t.pc &&& 1 = 0 ∧ t.extAbort t.pc 2 .fetch t.privileged = false ∧
      isBlPrefix (t.byte (t.pc + 1) ++ t.byte (t.pc + 0)) = false ∧
      decodeThumbHalf (t.byte (t.pc + 1) ++ t.byte (t.pc + 0)) = some (.tMovImm 0 5)) ∧
    ({ t with aborts := [⟨0, 0xFFFFFFFF, 2, .fetch, true⟩] } : State).extAbort t.pc 2 .fetch true = true ∧
    (quiet p = true ∧ p.thumb = true ∧ crossesTop p.pc 4 = false ∧
      isBlPrefix (p.byte (p.pc + 1) ++ p.byte (p.pc + 0)) = true ∧
      decodeThumbPair (p.byte (p.pc + 1) ++ p.byte (p.pc + 0)) (p.byte (p.pc + 3) ++ p.byte (p.pc + 2)) =
        some (.tBl 0 2)) ∧
    (let lone := { State.reset with cpsr := 0x1F3 }.setBytes 0 [0x00, 0xF0, 0x00, 0x20]
     quiet lone = true ∧ isBlPrefix (lone.byte 1 ++ lone.byte 0) = true ∧
      decodeThumbPair (lone.byte 1 ++ lone.byte 0) (lone.byte 3 ++ lone.byte 2) = none ∧
      decodeThumbHalf (lone.byte 1 ++ lone.byte 0) = some (.tBlBlxPrefix 0)) ∧
    ({ p with aborts := [⟨0xFFFFFFFE, 0xFFFFFFFE, 2, .fetch, true⟩] } : State).extAbort p.pc 2 .fetch true = false ∧
    ({ p with aborts := [⟨0xFFFFFFFE, 0xFFFFFFFE, 2, .fetch, true⟩] } : State).extAbort (p.pc + 2) 2 .fetch true = true := by
  decide +kernel

theorem witness_InputsAreTakenBeforeTheInstruction :
    ({ State.reset with resetPending := true } : State).resetPending = true ∧
    ({ arm with fiqPending := true, irqPending := true } : State).fiqMasked = false ∧
    ({ arm with cpsr := 0x50, fiqPending := true, irqPending := true } : State).fiqMasked = true ∧
    ({ arm with cpsr := 0x50, fiqPending := true, irqPending := true } : State).irqMasked = false ∧
    ({ arm with cpsr := 0xD0, fiqPending := true, irqPending := true } : State).irqMasked = true := by decide +kernel

theorem witness_ConditionsFollowTheTable :
    Instr.code (.b .eq 0) = .arm 0x0A000000 ∧ Cond.ofBits ((0x0A000000 : Word).extractLsb' 28 4) = some .eq ∧
    arm.passed .eq = false ∧ arm.pc.toNat + 4 < 2 ^ 32 := by decide +kernel

theorem witness_UnlistedEncodingsTrap :
    arm.thumb = false ∧ decodeArm 0xE7F000F0 = none ∧ decodeArm 0x07F000F0 = none ∧ decodeArm 0xF0000000 = none ∧
    thumb.thumb = true ∧ decodeThumbHalf 0xB100 = none := by decide +kernel

theorem witness_UserModeIsConfined :
    arm.mode? = some .usr ∧ gives (.mov .al true 0 (.imm ⟨0, 0⟩)) arm (fun t => t.mode? == some .usr) = true ∧
    enters (.swi .al 0) arm .softwareInterrupt = true := by decide +kernel

theorem witness_DecodeUndoesEncode :
    (Instr.sxtab .al 14 0 3 15).WellFormed ∧ (Instr.tBCond .le 0x80).WellFormed ∧ (Instr.tBl 0x7FF 0x7FF).WellFormed :=
  ⟨rfl, rfl, rfl⟩

theorem witness_DecodedWordsAreWellFormed :
    decodeArm 0xE2810004 = some (.add .al false 1 0 (.imm ⟨0, 4⟩)) ∧ decodeThumbHalf 0x4008 = some (.tAnd 1 0) := by
  decide +kernel

theorem witness_RegistersAreBanked :
    thumb.mode? = some .usr ∧ thumb.privileged = false ∧ strict.mode? = some .svc ∧ strict.privileged = true ∧
    Mode.fiq.spsrIndex = some 0 ∧ Mode.und.spsrIndex = some 4 ∧ Mode.ofBits 0x1E = none ∧
    bank (some .fiq) 14 = bank (some .fiq) 14 ∧ bank (some .fiq) 8 ≠ bank (some .usr) 8 ∧
    bank (some .svc) 13 ≠ bank (some .irq) 13 ∧ bank (some .sys) 14 = bank (some .usr) 14 ∧ (14 : RegNum) ≠ 15 := by
  decide +kernel

theorem witness_AccessesPackBytesByEndianness :
    (4 : Nat) ∈ [1, 2, 4] ∧ crossesTop 0xFFFFFFFC 4 = false ∧ crossesTop 0xFFFFFFFD 4 = true ∧
    crossesTop 0xFFFFFFFE 2 = false ∧ crossesTop 0xFFFFFFFF 2 = true ∧ crossesTop 0xFFFFFFFF 1 = false ∧
    (aborting 4).extAbort 0xFFFFFFFC 4 .read true = true ∧ (aborting 4).extAbort 0xFFFFFFFC 4 .write true = true ∧
    arm.extAbort 0xFFFFFFFC 4 .read true = false ∧ arm.extAbort 0xFFFFFFFC 4 .write true = false := by decide +kernel

theorem witness_UnalignedAccessesFollowAAndU :
    (0 : Word) &&& 3 = 0 ∧ (1 : Word) &&& 3 ≠ 0 ∧ (0xFFFFFFFF : Word) &&& 1 ≠ 0 ∧ strict.aBit = true ∧
    mixed.aBit = false ∧ mixed.uBit = true ∧ arm.aBit = false ∧ arm.uBit = false ∧
    arm.memRead (0xFFFFFFFF &&& 0xFFFFFFFC) 4 false = .ok 0 ∧
    (aborting 4).memRead 0 4 true = .error (.raise .dataAbort (aborting 4)) :=
  ⟨rfl, by decide, by decide, rfl, rfl, rfl, rfl, rfl, rfl, rfl⟩

theorem witness_ReturnUndoesEntry : arm.Inv ∧ arm.thumb = false ∧ thumb.Inv ∧ arm.mode? ≠ some .svc ∧
    arm.mode? ≠ some .irq := by unfold State.Inv; decide +kernel

theorem witness_TrapInstructionsTakeTheirException :
    arm.passed .al = true ∧ enters (.swi .al 1) arm .softwareInterrupt = true ∧ enters (.bkpt 1) arm .prefetchAbort = true ∧
    enters (.tUndefined 1) thumb .undefined = true := by decide +kernel

/-- Table A.3 at the amounts where its rows meet (R17). -/
theorem witness_ShifterFollowsTheTable :
    shift 3 .lsl 31 false = (0x80000000, true) ∧ shift 3 .lsl 32 false = (0, true) ∧ shift 3 .lsl 33 false = (0, false) ∧
    shift 0x80000000 .lsr 31 false = (1, false) ∧ shift 0x80000000 .lsr 32 false = (0, true) ∧
    shift 0x80000000 .lsr 33 false = (0, false) ∧ shift 0x80000000 .asr 32 false = (0xFFFFFFFF, true) ∧
    shift 0x80000001 .ror 32 false = (0x80000001, true) ∧ shift 0x80000001 .asr 31 false = (0xFFFFFFFF, false) ∧ shift 1 .ror 1 false = (0x80000000, true) := by decide +kernel

theorem witness_LogicalOperationsYield :
    arm.Ready .al 4 ∧ (14 : RegNum) ≠ 15 ∧ shiftNamesPc (.shiftReg ⟨0, .lsl, 14⟩) [0, 14] = false ∧
    faults (.and .al true 15 14 (.shiftReg ⟨0, .lsl, 0⟩)) arm .registerShiftPc = true ∧
    gives (.and .al true 15 14 (.shiftImm ⟨0, .lsl, 15⟩)) arm (fun t => t.reg 14 == 0) = true := by decide +kernel

theorem witness_ArithmeticOperationsYield :
    arm.Ready .al 4 ∧ (0 : RegNum) ≠ 15 ∧
    faults (.add .al true 0 14 (.shiftReg ⟨15, .lsl, 0⟩)) arm .registerShiftPc = true ∧
    gives (.sub .al true 0 0 (.imm ⟨0, 1⟩)) arm (fun t => t.reg 0 == 0xFFFFFFFF && !t.flagC) = true := by decide +kernel

theorem witness_ComparesWriteOnlyFlags :
    arm.Ready .al 4 ∧ faults (.cmp .al 15 (.shiftReg ⟨0, .lsl, 0⟩)) arm .registerShiftPc = true ∧
    gives (.cmp .al 15 (.imm ⟨0, 0⟩)) arm (fun t => t.flagC) = true := by decide +kernel

/-- Every branch of a write to pc: a jump, an unaligned one, a return, and each stop of a return. -/
theorem witness_WritingPcJumpsOrReturns :
    let saved := fun w : Word => put { arm with cpsr := 0x13 } [] [(2, w)] []
    let mov := Instr.mov .al true 15 (.imm ⟨0, 4⟩)
    arm.passed .al = true ∧ arm.thumb = false ∧
    gives (.mov .al false 15 (.imm ⟨0, 4⟩)) arm (fun t => t.pc == 4) = true ∧
    faults (.mov .al false 15 (.imm ⟨0, 2⟩)) arm .branchUnaligned = true ∧ faults mov arm .noSpsr = true ∧
    gives mov (saved 0x10) (fun t => t.cpsr == 0x10 && t.pc == 4) = true ∧
    gives (.mov .al true 15 (.imm ⟨0, 3⟩)) (saved 0x30) (fun t => t.thumb && t.pc == 2) = true ∧
    faults mov (saved 0) .returnMode = true ∧
    faults mov (saved 0x01000010) .returnJava = true ∧
    faults (.mov .al true 15 (.imm ⟨0, 2⟩)) (saved 0x10) .branchUnaligned = true ∧
    faults (.mov .al true 15 (.shiftReg ⟨0, .lsl, 0⟩)) arm .registerShiftPc = true := by decide +kernel

theorem witness_ClzCountsLeadingZeros :
    arm.Ready .al 4 ∧ faults (.clz .al 15 0) arm .clzPc = true ∧ gives (.clz .al 14 0) arm (fun t => t.reg 14 == 32) = true ∧
    gives (.clz .al 0 1) (State.with arm [(1, 1)]) (fun t => t.reg 0 == 31) = true ∧
    gives (.clz .al 0 1) (State.with arm [(1, 0x80000000)]) (fun t => t.reg 0 == 0) = true := by decide +kernel

theorem witness_MultipliesYieldTheLowWord :
    arm.Ready .al 4 ∧ faults (.mul .al false 15 0 1) arm .multiplyPc = true ∧
    faults (.mul .al false 1 0 1) arm .multiplyOverlap = true ∧
    gives (.mla .al false 14 14 13 12) arm (fun t => t.reg 14 == 0) = true := by decide +kernel

theorem witness_LongMultipliesYieldThePair :
    arm.Ready .al 4 ∧ faults (.umull .al false 15 0 1 2) arm .multiplyPc = true ∧
    faults (.umull .al false 0 0 1 2) arm .multiplyOverlap = true ∧
    gives (.umaal .al 14 13 14 13) arm (fun t => t.reg 14 == 0) = true := by decide +kernel

theorem witness_HalfwordMultipliesYield :
    arm.Ready .al 4 ∧ faults (.smlaxy .al 15 0 1 false false 2) arm .multiplyPc = true ∧
    faults (.smlalxy .al 0 0 1 false false 2) arm .multiplyOverlap = true ∧
    gives (.smlaxy .al 0 1 2 false false 2) (State.with arm [(1, 0x7FFFFFFF), (2, 1)])
      (fun t => t.reg 0 == 0x80000000 && t.flagQ) = true := by decide +kernel

theorem witness_DualMultipliesYield :
    arm.Ready .al 4 ∧ faults (.smuad .al 15 0 false 1) arm .multiplyPc = true ∧
    gives (.smuad .al 0 1 false 1) (State.with arm [(1, 0x80008000)]) (fun t => t.reg 0 == 0x80000000 && t.flagQ) = true := by
  decide +kernel

theorem witness_MostSignificantWordMultipliesYield :
    arm.Ready .al 4 ∧ faults (.smmul .al 15 0 false 1) arm .multiplyPc = true ∧
    gives (.smmul .al 0 1 true 2) (State.with arm [(1, 1), (2, 0x80000000)]) (fun t => t.reg 0 == 0) = true ∧
    gives (.smmul .al 0 1 false 2) (State.with arm [(1, 1), (2, 0x80000000)]) (fun t => t.reg 0 == 0xFFFFFFFF) = true := by
  decide +kernel

theorem witness_ParallelSaturatingYield :
    arm.Ready .al 4 ∧ faults (.qadd16 .al 15 0 1) arm .mediaPc = true ∧
    gives (.qadd16 .al 1 0 1) (State.with arm [(1, 0x7FFF8000)]) (fun t => t.reg 0 == 0x7FFF8000 && t.flagQ) = true ∧
    gives (.qadd16 .al 1 0 1) (State.with { arm with satSetsQ := false } [(1, 0x7FFF8000)])
      (fun t => t.reg 0 == 0x7FFF8000 && !t.flagQ) = true := by decide +kernel

theorem witness_ParallelModularYield :
    arm.Ready .al 4 ∧ faults (.uadd8 .al 0 15 1) arm .mediaPc = true ∧
    gives (.uadd8 .al 1 0 2) (State.with arm [(1, 0xFF7F8001), (2, 0x01018000)])
      (fun t => t.reg 0 == 0x00800001 && t.ge == 0b1010#4) = true := by decide +kernel

theorem witness_ParallelHalvingYield :
    arm.Ready .al 4 ∧ faults (.shadd16 .al 0 1 15) arm .mediaPc = true ∧
    gives (.shadd16 .al 1 0 2) (State.with arm [(1, 0xFFFF7FFF), (2, 0x00007FFF)]) (fun t => t.reg 0 == 0xFFFF7FFF) = true := by
  decide +kernel

theorem witness_SaturatingArithmeticYields :
    arm.Ready .al 4 ∧ faults (.qadd .al 0 15 1) arm .mediaPc = true ∧
    gives (.qdadd .al 1 0 2) (State.with arm [(1, 0x40000000), (2, 0xFFFFFFFF)])
      (fun t => t.reg 0 == 0x7FFFFFFE && t.flagQ) = true := by decide +kernel

theorem witness_SaturateInstructionsYield :
    arm.Ready .al 4 ∧ faults (.ssat .al 0 15 0 false 1) arm .mediaPc = true ∧
    gives (.ssat .al 0 0 0 true 1) (State.with arm [(1, 0x80000000)]) (fun t => t.reg 0 == 0xFFFFFFFF && !t.flagQ) = true ∧
    gives (.usat .al 31 0 0 false 1) (State.with arm [(1, 0xFFFFFFFF)]) (fun t => t.reg 0 == 0 && t.flagQ) = true := by
  decide +kernel

theorem witness_ExtendsYield :
    arm.Ready .al 4 ∧ faults (.sxtab .al 0 15 0 1) arm .mediaPc = true ∧
    gives (.sxtab .al 1 0 3 2) (State.with arm [(1, 1), (2, 0x80000000)]) (fun t => t.reg 0 == 0xFFFFFF81) = true := by
  decide +kernel

theorem witness_SelectPackReverseSumYield :
    arm.Ready .al 4 ∧ faults (.sel .al 0 15 1) arm .mediaPc = true ∧
    gives (.pkhtb .al 1 0 0 2) (State.with arm [(1, 0x12345678), (2, 0x80000000)]) (fun t => t.reg 0 == 0x1234FFFF) = true := by
  decide +kernel

theorem witness_ArmBranchesJump :
    arm.passed .al = true ∧ arm.thumb = false ∧ arm.pc &&& 3 = 0 ∧
    gives (.bl .al 0x800000) arm (fun t => t.pc == 0xFE000000 && t.reg 14 == 0xFFFFFFFC) = true ∧
    faults (.bx .al 0) (State.with arm [(0, 2)]) .exchangeUnaligned = true ∧ faults (.blxReg .al 15) arm .blxPc = true ∧
    gives (.bx .al 0) (State.with arm [(0, 3)]) (fun t => t.thumb && t.pc == 2) = true ∧
    exec (.bxj .al 0) { arm with je := true } = .refused .java := by
  refine ⟨by decide +kernel, by decide +kernel, by decide +kernel, by decide +kernel, by decide +kernel,
    by decide +kernel, by decide +kernel, rfl⟩

/-- Every branch of MRS and MSR: user mode, a privileged mode, and each stop. -/
theorem witness_StatusMovesYield :
    let svc : State := { arm with cpsr := 0x13 }
    arm.Ready .al 4 ∧ svc.Ready .al 4 ∧ faults (.mrsCpsr .al 15) arm .mrsPc = true ∧
    faults (.mrsSpsr .al 0) arm .noSpsr = true ∧ faults (.msrSpsr .al 15 (.imm ⟨0, 0⟩)) arm .noSpsr = true ∧
    gives (.mrsSpsr .al 0) svc (fun t => t.reg 0 == 0) = true ∧ faults (.msrCpsr .al 15 (.reg 15)) arm .msrPc = true ∧
    gives (.msrCpsr .al 15 (.reg 0)) (State.with arm [(0, 0xFFFFFFFF)]) (fun t => t.cpsr == 0xF80F0210) = true ∧
    gives (.msrCpsr .al 1 (.imm ⟨0, 0x1F⟩)) svc (fun t => t.cpsr == 0x1F) = true ∧
    faults (.msrCpsr .al 1 (.imm ⟨0, 0x3F⟩)) svc .msrState = true ∧
    faults (.msrCpsr .al 1 (.imm ⟨0, 0⟩)) svc .unlistedMode = true := by decide +kernel

theorem witness_ProcessorStateChangesYield :
    let svc : State := { arm with cpsr := 0x13 }
    arm.pc.toNat + 4 < 2 ^ 32 ∧ arm.privileged = false ∧ svc.privileged = true ∧
    gives (.cpsMode 0x1F) svc (fun t => t.cpsr == 0x1F) = true ∧ gives (.cpsMode 0) arm (fun t => t.cpsr == 0x10) = true ∧
    faults (.cpsMode 0) svc .unlistedMode = true ∧
    gives (.cpsFlags true true true true true 0x1F) svc (fun t => t.cpsr == 0x1DF) = true ∧
    faults (.cpsFlags true true true true true 0) svc .unlistedMode = true ∧
    faults (.tCps true false false false) svc .cpsNoFlag = true := by decide +kernel

/-- A coprocessor p1 that rejects the listed instructions in the listed modes. -/
def withCp (s : State) (rejects : List CpReject) : State :=
  { s with cop := s.cop.set 1 ⟨true, rejects, Vector.replicate 16 0⟩ }

theorem witness_AbsentCoprocessorsTrap :
    let cdp := Instr.cdp .al 0 0 0 1 0 0; let svc : State := { arm with cpsr := 0x13 }
    arm.passed .al = true ∧ arm.cop[(1 : RegNum).val].present = false ∧
    (withCp arm [⟨cdp, .usr⟩]).cpAccepts 1 cdp = false ∧
    enters cdp (withCp arm [⟨cdp, .usr⟩]) .undefined = true ∧
    (withCp svc [⟨cdp, .usr⟩]).cpAccepts 1 cdp = true ∧ (withCp svc [⟨cdp, .svc⟩]).cpAccepts 1 cdp = false ∧
    (withCp svc [⟨cdp, .svc⟩]).cpAccepts 1 (.cdp .al 0 0 0 1 1 0) = true ∧
    enters (.mrrc .al 0 1 1 0 0) arm .undefined = true ∧ enters (.stc2 false 0 0 1 (.unindexed 0)) arm .undefined = true ∧
    cpBroken .mrrc 0 1 (.unindexed 0) = none ∧ cpBroken .mrrc 1 1 (.unindexed 0) = some .coprocessorRegister := by
  decide +kernel

/-- An absent coprocessor and a broken restriction: the trap by R280's order, UNPREDICTABLE by R663's (log 16). -/
theorem test_absent_and_broken :
    let mcr := Instr.mcr .al 0 0 15 1 0 0
    exec mcr arm =
      if Config.restrictionsFirst mcr then .fault .coprocessorRegister else .next (enter .undefined arm) := by
  change finish (Except.bind (if Config.restrictionsFirst _ then unpredictable .coprocessorRegister
    else raise .undefined arm) _) = _
  cases Config.restrictionsFirst _ <;> rfl

theorem witness_SystemCoprocessorRegisters :
    let svc : State := { arm with cpsr := 0x13 }
    svc.Ready .al 4 ∧ svc.cop[15].present = true ∧ svc.cop[15].rejects = [] ∧ svc.privileged = true ∧
    arm.privileged = false ∧ (0 : RegNum) ≠ 15 ∧
    gives (.mcr .al 0 1 0 15 0 0) (put svc [(0, 0x00400002)] [] []) (fun t => t.aBit && t.uBit) = true ∧
    gives (.mrc .al 0 1 15 15 0 0) { svc with cp15c1 := 0x40000000 } (fun t => t.flagZ && !t.flagN) = true ∧
    (cpCases .al false 0 15 15 0 0 0 0 (.unindexed 0)).map (fun x => describedOfP15 x.req) =
      [false, false, false, false, true, false, false, false, false, false, false, false, false, false] ∧
    faults (.mcr2 0 0 15 15 0 0) svc .coprocessorRegister = true ∧
    refuses (.mrrc .al 0 1 15 0 0) svc = true ∧ faults (.mrrc .al 15 15 15 0 0) svc .coprocessorRegister = true ∧ refuses (.mcr .al 0 0 0 15 0 0) svc = true ∧
    (cpCases .al true 0 1 15 0 0 0 0 (.unindexed 0)).all (fun x =>
      enters x.instr arm .undefined && (cpBroken x.req.kind 0 1 (.unindexed 0)).isNone) = true ∧
    cpBroken .mcr 0 15 (.unindexed 0) = some .coprocessorRegister := by
  decide +kernel

theorem witness_CoprocessorTransfersYield :
    arm.Ready .al 4 ∧ (withCp arm []).Accepts 1 (.cdp2 0 0 0 1 0 0) ∧
    faults (.mcr .al 0 0 15 1 0 0) (withCp arm []) .coprocessorRegister = true ∧
    faults (.mrrc .al 0 0 1 0 0) (withCp arm []) .coprocessorRegister = true ∧
    faults (.mcrr2 15 0 1 0 0) (withCp arm []) .coprocessorRegister = true := by decide +kernel

/-- However many words the coprocessor asks for. -/
theorem witness_CoprocessorLoadsAndStoresYield (n : Fin 16) :
    let s := withCp State.reset []
    let first : State := { s with aborts := [⟨0, 0, 4, .read, true⟩, ⟨0, 0, 4, .write, true⟩] }
    s.Ready .al 4 ∧ s.Accepts 1 (.ldc .al false 0 0 1 (.unindexed 0)) ∧ s.Accepts 1 (.stc2 false 0 0 1 (.unindexed 0)) ∧
    (0 : Word) &&& 3 = 0 ∧ crossesTop 0 (4 * (n.val + 1)) = false ∧ s.aborts = [] ∧
    first.extAbort 0 4 .read first.privileged = true ∧ first.extAbort 0 4 .write first.privileged = true ∧
    faults (.ldc .al false 15 0 1 (.indexed .pre true 0)) s .coprocessorBasePc = true ∧
    faults (.stc .al false 15 0 1 (.indexed .post true 0)) s .coprocessorBasePc = true := by
  revert n; decide +kernel

/-! Every way a single transfer ends. -/

theorem witness_WordAndByteLoadsYield :
    arm.Ready .al 4 ∧ faults (.ldr .al .pre true 1 1 (.imm 4)) arm .writebackOverlap = true ∧
    faults (.ldrt .al true 15 0 (.imm 4)) arm .writebackPc = true ∧
    faults (.ldrb .al .offset true 0 15 (.imm 4)) arm .transferPc = true ∧
    enters (.ldr .al .offset true 0 1 (.imm 1)) strict .dataAbort = true ∧
    enters (.ldr .al .offset true 0 1 (.imm 4)) (aborting 4) .dataAbort = true ∧
    faults (.ldr .al .offset false 0 1 (.imm 1)) mixed .addressWrap = true ∧
    faults (.ldr .al .offset true 0 15 (.imm 0)) (put arm [] [] [(0, 2)]) .exchangeUnaligned = true ∧
    gives (.ldr .al .offset true 0 15 (.imm 0)) (put arm [] [] [(0, 3)]) (fun t => t.thumb && t.pc == 2) = true ∧
    gives (.ldr .al .post false 0 1 (.imm 0xFFF)) (put arm [] [] [(0, 7)])
      (fun t => t.reg 1 == 7 && t.reg 0 == 0xFFFFF001) = true := by decide +kernel

theorem witness_WordAndByteStoresYield :
    arm.Ready .al 4 ∧ faults (.str .al .post true 1 1 (.imm 4)) arm .writebackOverlap = true ∧
    faults (.strb .al .pre true 1 0 (.reg ⟨0, .lsl, 1⟩)) arm .offsetWritebackOverlap = true ∧
    faults (.strt .al true 0 1 (.reg ⟨0, .lsl, 15⟩)) arm .offsetPc = true ∧
    enters (.strbt .al true 0 1 (.imm 0)) { State.reset with aborts := [⟨0, 0, 1, .write, false⟩] } .dataAbort = true ∧
    gives (.str .al .offset false 0 1 (.imm 4)) (State.with arm [(1, 0x01020304)])
      (fun t => t.dataWord 0xFFFFFFFC == 0x01020304) = true ∧
    gives (.str .al .offset false 0 1 (.imm 1)) (State.with arm [(1, 0x01020304)])
      (fun t => t.dataWord 0xFFFFFFFC == 0x01020304) = true := by decide +kernel

theorem witness_HalfwordTransfersYield :
    arm.Ready .al 4 ∧ faults (.ldrh .al .pre true 1 1 (.imm 4)) arm .writebackOverlap = true ∧
    enters (.ldrsh .al .offset true 0 1 (.imm 1)) strict .dataAbort = true ∧
    faults (.strh .al .offset true 0 1 (.imm 1)) arm .unalignedUnpredictable = true ∧
    faults (.strh .al .offset false 0 1 (.imm 1)) mixed .addressWrap = true ∧
    enters (.ldrh .al .offset true 0 1 (.imm 2)) (aborting 2) .dataAbort = true ∧
    gives (.ldrsb .al .offset true 0 1 (.imm 1)) (put arm [] [] [(0, 0x8000)]) (fun t => t.reg 1 == 0xFFFFFF80) = true := by
  decide +kernel

theorem witness_DoublewordTransfersYield :
    arm.Ready .al 4 ∧ faults (.ldrd .al .offset true 0 1 (.imm 0)) arm .doublewordRegister = true ∧
    faults (.ldrd .al .offset true 0 14 (.imm 0)) arm .doublewordRegister = true ∧
    faults (.strd .al .pre true 3 2 (.imm 0)) arm .doublewordOverlap = true ∧
    faults (.ldrd .al .offset true 0 2 (.reg 3)) arm .doublewordOverlap = true ∧
    faults (.strd .al .offset true 0 2 (.reg 3)) arm .doublewordOverlap = true ∧
    gives (.strd .al .offset true 0 2 (.imm 8)) { (State.with State.reset [(2, 7)]) with aborts := [⟨12, 12, 4, .write, true⟩] }
      (fun t => t.mode? == some .abt && t.dataWord 8 == 7) = true ∧
    enters (.ldrd .al .offset true 0 2 (.imm 8)) { State.reset with aborts := [⟨12, 12, 4, .read, true⟩] } .dataAbort = true ∧
    faults (.ldrd .al .offset true 0 2 (.imm 4)) arm .unalignedUnpredictable = true ∧
    enters (.ldrd .al .offset true 0 2 (.imm 4)) strict .dataAbort = true ∧
    gives (.ldrd .al .offset true 4 2 (.imm 4)) mixed (fun t => t.reg 3 == 0) = true ∧
    enters (.strd .al .offset true 0 2 (.imm 2)) mixed .dataAbort = true ∧
    faults (.strd .al .offset false 4 2 (.imm 4)) mixed .addressWrap = true ∧
    gives (.ldrd .al .offset false 4 12 (.imm 8)) arm (fun t => t.regIn (some .usr) 13 == 0) = true := by decide +kernel

/-- Every branch of LDREX and STREX: held and not held, shared and not shared, another address, a doubtful mark, the stops
and the aborts. -/
theorem witness_ExclusivesYield :
    let held : State := { arm with exclOutstanding := some 0 }
    let shared : State := { arm with attrs := [⟨0, 0xFF, true, false⟩], exclAddr := some 0 }
    let blocked : State := { held with aborts := [⟨0, 0, 4, .write, false⟩] }
    (arm.Ready .al 4 ∧ faults (.ldrex .al 15 0) arm .exclusiveRegister = true ∧
    faults (.strex .al 0 1 1) arm .exclusiveRegister = true ∧
    faults (.ldrex .al 0 1) (State.with arm [(0, 2)]) .unalignedUnpredictable = true ∧
    enters (.strex .al 0 1 2) (State.with strict [(0, 2)]) .dataAbort = true ∧
    enters (.ldrex .al 0 1) (aborting 4) .dataAbort = true ∧ shared.shared 0 = true ∧ held.shared 0 = false ∧
    gives (.ldrex .al 0 1) shared (fun t => t.exclAddr == some 0) = true ∧
    gives (.ldrex .al 0 1) arm (fun t => t.exclOutstanding == some 0 && !t.openOutstanding) = true ∧
    gives (.strex .al 0 1 2) held (fun t => t.reg 1 == 0 && t.exclOutstanding == none) = true ∧
    gives (.strex .al 0 1 2) shared (fun t => t.reg 1 == 0 && t.exclAddr == none) = true ∧
    gives (.strex .al 0 1 2) arm (fun t => t.reg 1 == 1) = true ∧
    gives (.strex .al 0 1 2) (State.with held [(0, 4)]) (fun t => t.reg 1 == 1 && t.exclOutstanding == none) = true ∧
    gives (.strex .al 0 1 2) blocked (fun t => t.mode? == some .abt && t.exclOutstanding == none && t.reg 1 == 0) = true) ∧
    held.Held 0 ∧ ¬ held.Doubtful 0 ∧ held.openMonitor.Held 0 ∧ held.openMonitor.Doubtful 0 ∧ shared.Held 0 ∧
    ¬ arm.Held 0 := by
  refine ⟨by decide +kernel, rfl, Bool.noConfusion, rfl, rfl, rfl, ?_⟩
  exact fun h => nomatch (show (none : Option Word) = some 0 from h)

/-- A store, an entry and a return leave the marks and make them doubtful; a load and a swap do not (R113, R350, R655). -/
theorem test_monitor_opens :
    let s : State := put { State.reset with exclOutstanding := some 0 } [] [(2, 0x10)] []
    let doubt := fun i => gives i s fun t => t.exclOutstanding == some 0 && t.openOutstanding
    let keep := fun i => gives i s fun t => t.exclOutstanding == some 0 && !t.openOutstanding
    ([.str .al .offset true 0 1 (.imm 4), .stm .al false true false 0 1, .srs false true false 0x13, .swi .al 0,
      .mov .al true 15 (.imm ⟨0, 0⟩), .tStrImm 1 0 1, .tPush false 1] : List Instr).all doubt = true ∧
    ([.ldr .al .offset true 0 1 (.imm 4), .swp .al 0 1 2, .swpb .al 0 1 2] : List Instr).all keep = true := by
  decide +kernel

theorem witness_SwapsAndPreloadYield :
    arm.Ready .al 4 ∧ faults (.swp .al 0 1 0) arm .swapRegister = true ∧ faults (.swpb .al 0 0 1) arm .swapRegister = true ∧
    enters (.swp .al 0 1 2) (aborting 4) .dataAbort = true ∧ enters (.swpb .al 0 1 2) (aborting 1) .dataAbort = true ∧
    gives (.swp .al 0 1 1) (put arm [(0, 0xFFFFFFFC), (1, 5)] [] [(0xFFFFFFFC, 7)])
      (fun t => t.reg 1 == 7 && t.dataWord 0xFFFFFFFC == 5) = true ∧
    faults (.pld true 0 (.reg ⟨0, .lsl, 15⟩)) arm .offsetPc = true ∧
    gives (.pld true 15 (.imm 0)) arm (fun t => t.pc == 0xFFFFFFFC) = true := by decide +kernel

/-! Every way a multiple transfer ends. -/

theorem witness_LoadMultipleYields :
    let i := Instr.ldm .al false true true 0 0x8002
    arm.Ready .al 4 ∧ faults (.ldm .al false true true 0 0) arm .emptyList = true ∧
    faults (.ldm .al false true true 15 1) arm .multipleBasePc = true ∧
    faults (.ldm .al false true true 0 1) arm .baseInList = true ∧
    enters i (State.with strict [(0, 2)]) .dataAbort = true ∧ enters i (aborting 4) .dataAbort = true ∧
    faults (.ldm .al true true true 0 2) (State.with arm [(0, 0xFFFFFFFC)]) .addressWrap = false ∧
    faults (.ldm .al false true true 0 6) (State.with arm [(0, 0xFFFFFFFC)]) .addressWrap = true ∧
    gives (.ldm .al false true true 0 2) (State.with arm [(0, 0xFFFFFFFC)]) (fun t => t.reg 0 == 0) = true ∧
    faults i (put arm [] [] [(4, 2)]) .exchangeUnaligned = true ∧
    gives i (put arm [] [] [(0, 9), (4, 3)]) (fun t => t.reg 1 == 9 && t.reg 0 == 8 && t.pc == 2 && t.thumb) = true := by
  decide +kernel

theorem witness_LoadMultipleUserAndReturnYield :
    let svc := fun w : Word => put { arm with cpsr := 0x13 } [] [(2, w)] [(0, 9)]
    arm.Ready .al 4 ∧ (svc 0).Ready .al 4 ∧ faults (.ldmUser .al false true false 0 0) arm .emptyList = true ∧
    faults (.ldmUser .al false true false 0 2) arm .userBankMode = true ∧
    faults (.ldmUser .al false true true 0 2) (svc 0) .userBankWriteback = true ∧
    gives (.ldmUser .al false true false 0 0x4000) (svc 0) (fun t => t.regIn (some .usr) 14 == 9 && t.reg 14 == 0) = true ∧
    faults (.ldmReturn .al false true false 15 2) (svc 0) .multipleBasePc = true ∧
    faults (.ldmReturn .al false true false 0 2) arm .userBankMode = true ∧
    faults (.ldmReturn .al false true true 0 1) (svc 0) .baseInList = true ∧
    faults (.ldmReturn .al false true false 0 2) (svc 0) .returnMode = true ∧
    faults (.ldmReturn .al false true false 0 2) (svc 0x01000010) .returnJava = true ∧
    faults (.ldmReturn .al false true false 0 0) (svc 0x10) .branchUnaligned = true ∧
    gives (.ldmReturn .al false true true 0 2) (svc 0x30)
      (fun t => t.reg 1 == 9 && t.cpsr == 0x30 && t.pc == 0 && t.reg 0 == 8) = true := by decide +kernel

theorem witness_StoreMultipleYields :
    let svc : State := { arm with cpsr := 0x13 }
    arm.Ready .al 4 ∧ svc.Ready .al 4 ∧ faults (.stm .al true false true 13 0) arm .emptyList = true ∧
    faults (.stmUser .al true false false 15 1) svc .multipleBasePc = true ∧
    faults (.stmUser .al true false false 0 1) arm .userBankMode = true ∧
    faults (.stmUser .al true false true 0 1) svc .userBankWriteback = true ∧
    enters (.stm .al false true true 0 3) (aborting 4) .dataAbort = true ∧
    gives (.stm .al false true true 0 3) (State.with arm [(0, 0xFFFFFFF8), (1, 7)])
      (fun t => t.dataWord 0xFFFFFFF8 == 0xFFFFFFF8 && t.dataWord 0xFFFFFFFC == 7 && t.reg 0 == 0) = true ∧
    gives (.stmUser .al false true false 0 0x2000) (put svc [(13, 5), (24, 6)] [] [])
      (fun t => t.dataWord 0 == 5) = true := by decide +kernel

theorem witness_ReturnStateTransfersYield :
    let svc := put { arm with cpsr := 0x13 } [] [(2, 0x10)] [(0, 8), (4, 0x10)]
    arm.pc.toNat + 4 < 2 ^ 32 ∧ faults (.rfe false true true 0) arm .rfeUserMode = true ∧
    faults (.rfe false true true 15) svc .multipleBasePc = true ∧
    gives (.rfe false true true 0) svc (fun t => t.pc == 8 && t.cpsr == 0x10 && t.reg 0 == 8) = true ∧
    faults (.rfe false true false 0) (put svc [] [] [(4, 0)]) .returnMode = true ∧
    faults (.rfe false true false 0) (put svc [] [] [(4, 0x01000010)]) .returnJava = true ∧
    faults (.rfe false true false 0) (put svc [] [] [(0, 2)]) .branchUnaligned = true ∧
    faults (.srs true false true 0x12) arm .noSpsr = true ∧ faults (.srs true false true 0) svc .unlistedMode = true ∧
    gives (.srs true false true 0x12) (put svc [(22, 0x108), (25, 5)] [] [])
      (fun t => t.dataWord 0x100 == 5 && t.dataWord 0x104 == 0x10 && t.regIn (some .irq) 13 == 0x100) = true := by
  decide +kernel

theorem witness_AbortedMultiplesWriteNoRegister :
    let s : State := { State.reset with aborts := [⟨4, 4, 4, .read, true⟩, ⟨4, 4, 4, .write, true⟩] }
    s.passed .al = true ∧ s.BlockAligned 0 ∧ crossesTop 0 8 = false ∧ (6 : BitVec 16).getLsbD 0 = false ∧
    s.spsrIndex?.isSome = true ∧ (0x8002 : BitVec 16).getLsbD 15 = true ∧
    s.extAbort (0 + 4) 4 .read s.privileged = true ∧ s.extAbort 0 4 .write s.privileged = false ∧
    s.extAbort (0 + 4) 4 .write s.privileged = true ∧ enters (.ldm .al false true true 0 6) s .dataAbort = true ∧
    enters (.ldmUser .al false true false 0 6) s .dataAbort = true ∧
    enters (.ldmReturn .al false true true 0 2) s .dataAbort = true ∧
    gives (.stm .al false true true 0 6) (State.with s [(1, 7)])
      (fun t => t.dataWord 0 == 7 && t.mode? == some .abt && t.reg 0 == 0) = true ∧
    gives (.stmUser .al false true false 0 0x6000) (State.with s [(13, 7)])
      (fun t => t.dataWord 0 == 7 && t.mode? == some .abt) = true ∧
    gives (.stm .al false true true 1 3) (State.with s [(0, 7)])
      (fun t => t.dataWord 0 == 7 && t.mode? == some .abt && t.reg 1 == 0) = true := by decide +kernel

/-! Thumb. -/

theorem witness_ThumbShiftsAndLogicYield :
    thumb.Ready .al 2 ∧ faults (.tMul 0 0) thumb .multiplyOverlap = true ∧
    gives (.tLsrImm 0 1 0) (State.with thumb [(1, 0x80000000)]) (fun t => t.reg 0 == 0 && t.flagC && t.flagZ) = true ∧
    gives (.tLslReg 1 0) (State.with thumb [(0, 1), (1, 32)]) (fun t => t.reg 0 == 0 && t.flagC) = true := by decide +kernel

theorem witness_ThumbArithmeticYields :
    thumb.Ready .al 2 ∧ gives (.tNeg 1 0) (State.with thumb [(1, 0x80000000)])
      (fun t => t.reg 0 == 0x80000000 && t.flagV && !t.flagC) = true ∧
    gives (.tCmpHigh 8 15) (State.with thumb [(8, 0)]) (fun t => t.flagZ && t.flagC) = true := by decide +kernel

theorem witness_ThumbMovesAndExtendsYield :
    thumb.Ready .al 2 ∧ thumb.thumb = true ∧
    gives (.tAddHigh 15 0) (State.with thumb [(0, 0x11)]) (fun t => t.pc == 0x10 && t.thumb) = true ∧
    gives (.tMovHigh 14 15) thumb (fun t => t.reg 14 == 0) = true := by decide +kernel

theorem witness_ThumbLoadsYield :
    thumb.Ready .al 2 ∧ enters (.tLdrImm 1 0 1) { thumb with cpsr := 0x33, aborts := (aborting 4).aborts } .dataAbort = true ∧
    enters (.tLdrReg 1 0 1) (State.with { thumb with cp15c1 := 2 } [(1, 1)]) .dataAbort = true ∧
    faults (.tLdrhReg 1 0 1) (State.with thumb [(1, 1)]) .unalignedUnpredictable = true ∧
    faults (.tLdrReg 1 0 1) (State.with { thumb with cp15c1 := 0x00400000 } [(1, 0xFFFFFFFD)]) .addressWrap = true ∧
    gives (.tLdrPc 0 0) (put thumb [] [] [(0, 5)]) (fun t => t.reg 0 == 5) = true := by decide +kernel

theorem witness_ThumbStoresYield :
    thumb.Ready .al 2 ∧
    enters (.tStrbImm 31 0 1) { thumb with cpsr := 0x33, aborts := (aborting 1).aborts } .dataAbort = true ∧
    faults (.tStrhReg 1 0 1) (State.with thumb [(1, 1)]) .unalignedUnpredictable = true ∧
    gives (.tStrReg 1 0 2) (State.with thumb [(0, 0xFFFFFFFE), (2, 5)]) (fun t => t.dataWord 0xFFFFFFFC == 5) = true := by
  decide +kernel

theorem witness_ThumbMultiplesYield :
    thumb.Ready .al 2 ∧ faults (.tPush false 0) thumb .emptyList = true ∧ faults (.tPop false 0) thumb .emptyList = true ∧
    faults (.tStmia 0 0) thumb .emptyList = true ∧ faults (.tLdmia 0 0) thumb .emptyList = true ∧
    faults (.tLdmia 0 1) thumb .baseInList = true ∧
    enters (.tPush true 0xFF) { thumb with cpsr := 0x33, aborts := (aborting 4).aborts } .dataAbort = true ∧
    faults (.tPop true 0) (put thumb [] [] [(0, 2)]) .exchangeUnaligned = true ∧
    gives (.tPop true 0) (put thumb [] [] [(0, 5)]) (fun t => t.pc == 4 && t.thumb && t.reg 13 == 4) = true ∧
    gives (.tPush true 0x80) (State.with thumb [(7, 1), (14, 2)])
      (fun t => t.reg 13 == 0xFFFFFFF8 && t.dataWord 0xFFFFFFF8 == 1 && t.dataWord 0xFFFFFFFC == 2) = true ∧
    gives (.tStmia 0 3) (State.with thumb [(1, 9)]) (fun t => t.reg 0 == 8 && t.dataWord 4 == 9) = true := by decide +kernel

theorem witness_ThumbBranchesJump :
    thumb.Ready .al 2 ∧ thumb.thumb = true ∧ thumb.pc &&& 1 = 0 ∧ thumb.passed .ne = true ∧ thumb.passed .eq = false ∧
    gives (.tBCond .ne 0x80) thumb (fun t => t.pc == 0xFFFFFF00) = true ∧
    gives (.tBCond .eq 0x80) thumb (fun t => t.pc == 0xFFFFFFFE) = true ∧ faults (.tBlxReg 15) thumb .blxPc = true ∧
    faults (.tBx 0) (State.with thumb [(0, 2)]) .exchangeUnaligned = true ∧
    gives (.tBlBlxPrefix 0x400) thumb (fun t => t.reg 14 == 0xFFC00000 && t.pc == 0xFFFFFFFE) = true := by decide +kernel

end Sys2Proof.Tests
end

section
/-! Proofs. The condition of an ARM instruction: O6. -/

namespace Sys2Proof.Machine

/-! ## The condition field of an ARM word (R133) -/

/-- The condition field reads back as the condition it was laid out from. -/
theorem ofBits_bits (c : Cond) : Cond.ofBits c.bits = some c := by cases c <;> rfl

/-- The four highest bits are `b`: where an ARM word carries its condition (R133), said at every width, so that it can
be followed through the concatenations of an encoding. -/
def HeadedBy (b : BitVec 4) {n : Nat} (x : BitVec n) : Prop := 4 ≤ n ∧ x.extractLsb' (n - 4) 4 = b

theorem HeadedBy.self (b : BitVec 4) : HeadedBy b b := ⟨le_rfl, BitVec.extractLsb'_eq_self⟩

/-- Bits appended below leave the head. -/
theorem HeadedBy.append {b : BitVec 4} {n m : Nat} {x : BitVec n} {y : BitVec m} (h : HeadedBy b x) :
    HeadedBy b (x ++ y) := by
  obtain ⟨hn, hx⟩ := h
  refine ⟨by omega, ?_⟩
  rw [BitVec.extractLsb'_append_eq_of_le (by omega), show n + m - 4 - m = n - 4 by omega, hx]

/-- A word headed by an encoded condition has that condition and no other. -/
theorem HeadedBy.cond_eq {c d : Cond} {w : Word} (hc : Cond.ofBits (w.extractLsb' 28 4) = some c)
    (h : HeadedBy d.bits w) : c = d := by
  rw [h.2, ofBits_bits] at hc
  exact (Option.some.inj hc).symm

/-- The head 1111 is the unconditional space (R134). -/
theorem HeadedBy.not_cond {c : Cond} {w : Word} (hc : Cond.ofBits (w.extractLsb' 28 4) = some c) :
    ¬ HeadedBy 0b1111#4 w := by
  rintro ⟨-, hw⟩
  rw [hw] at hc
  cases hc

theorem headedBy_dpCode (c : Cond) (opc : BitVec 4) (s : BitVec 1) (rn rd : BitVec 4) (op : Operand2) :
    HeadedBy c.bits (dpCode c opc s rn rd op) := by
  cases op <;> (repeat' apply HeadedBy.append) <;> exact .self _

theorem headedBy_halfCode (c : Cond) (idx : Indexing) (u : Bool) (l : BitVec 1) (rn rd : RegNum) (sh : BitVec 2)
    (off : HalfOffset) : HeadedBy c.bits (halfCode c idx u l rn rd sh off) := by
  cases off <;> (repeat' apply HeadedBy.append) <;> exact .self _

theorem headedBy_wordCode (c : Cond) (p : BitVec 1) (u : Bool) (b wl l : BitVec 1) (rn rd : RegNum) (off : WordOffset) :
    HeadedBy c.bits (wordCode c p u b wl l rn rd off) := by
  cases off <;> (repeat' apply HeadedBy.append) <;> exact .self _

theorem headedBy_msrCode (c : Cond) (r : BitVec 1) (fields : BitVec 4) (op : MsrOperand) :
    HeadedBy c.bits (msrCode c r fields op) := by
  cases op <;> (repeat' apply HeadedBy.append) <;> exact .self _

theorem headedBy_cpTransferCode (c : BitVec 4) (n : Bool) (l : BitVec 1) (rn cd cp : RegNum) (a : CpAddressing) :
    HeadedBy c (cpTransferCode c n l rn cd cp a) := by
  (repeat' apply HeadedBy.append); exact .self _

theorem headedBy_pldCode (u : Bool) (rn : RegNum) (off : WordOffset) : HeadedBy 0b1111#4 (pldCode u rn off) := by
  cases off <;> (repeat' apply HeadedBy.append) <;> exact ⟨by decide, by decide⟩

/-- R26: an ARM instruction is its effect under the condition that its word carries. BKPT has the condition field 1110. -/
theorem exec_conditional {i : Instr} {w : Word} {c : Cond} (hw : i.code = .arm w)
    (hc : Cond.ofBits (w.extractLsb' 28 4) = some c) (s : State) :
    ∃ body, exec i s = finish (s.conditional c body) := by
  cases i <;> cases hw
  case and | eor | sub | rsb | add | adc | sbc | rsc | tst | teq | cmp | cmn | orr | mov | bic | mvn =>
    cases HeadedBy.cond_eq hc (headedBy_dpCode ..); exact ⟨_, rfl⟩
  case strh | ldrh | ldrd | strd | ldrsb | ldrsh =>
    cases HeadedBy.cond_eq hc (headedBy_halfCode ..); exact ⟨_, rfl⟩
  case str | strt | ldr | ldrt | strb | strbt | ldrb | ldrbt =>
    cases HeadedBy.cond_eq hc (headedBy_wordCode ..); exact ⟨_, rfl⟩
  case msrCpsr | msrSpsr => cases HeadedBy.cond_eq hc (headedBy_msrCode ..); exact ⟨_, rfl⟩
  case stc | ldc => cases HeadedBy.cond_eq hc (headedBy_cpTransferCode ..); exact ⟨_, rfl⟩
  case bkpt =>
    cases HeadedBy.cond_eq (d := .al) hc (.append (.append (.append ⟨by decide, by decide⟩)))
    exact ⟨raise .prefetchAbort s, rfl⟩
  case stc2 | ldc2 => exact absurd (headedBy_cpTransferCode ..) (HeadedBy.not_cond hc)
  case pld => exact absurd (headedBy_pldCode ..) (HeadedBy.not_cond hc)
  case mcrr2 | mrrc2 | cdp2 | mcr2 | mrc2 | cpsMode | cpsFlags | setend | rfe | srs | blxImm =>
    refine absurd ?_ (HeadedBy.not_cond hc)
    (repeat' apply HeadedBy.append); exact ⟨by decide, by decide⟩
  -- Every other ARM encoding is one concatenation that begins with the condition.
  all_goals
    cases HeadedBy.cond_eq hc (by (repeat' apply HeadedBy.append); exact .self _); exact ⟨_, rfl⟩

/-- R26: an ARM instruction whose condition fails only advances the pc. -/
theorem exec_failed {i : Instr} {w : Word} {c : Cond} {s : State} (hw : i.code = .arm w)
    (hc : Cond.ofBits (w.extractLsb' 28 4) = some c) (hp : s.passed c = false) (hpc : s.pc.toNat + 4 < 2 ^ 32) :
    exec i s = .next (s.setPc (s.pc + 4)) := by
  obtain ⟨body, hexec⟩ := exec_conditional hw hc s
  rw [hexec, State.conditional_failed hp, State.advance_eq hpc, finish_ok]; rfl

/-! ## The condition table (R16) -/

theorem passed_hi_iff (s : State) : s.passed .hi = true ↔ s.flagC = true ∧ s.flagZ = false := by simp [State.passed]

theorem passed_ls_iff (s : State) : s.passed .ls = true ↔ s.flagC = false ∨ s.flagZ = true := by simp [State.passed]

theorem passed_ge_iff (s : State) : s.passed .ge = true ↔ s.flagN = s.flagV := by simp [State.passed]

theorem passed_lt_iff (s : State) : s.passed .lt = true ↔ s.flagN ≠ s.flagV := by simp [State.passed]

theorem passed_gt_iff (s : State) : s.passed .gt = true ↔ s.flagN = s.flagV ∧ s.flagZ = false := by
  simp [State.passed]

theorem passed_le_iff (s : State) : s.passed .le = true ↔ s.flagN ≠ s.flagV ∨ s.flagZ = true := by
  simp [State.passed]

/-- Settles O6: the codes by evaluation, the tests row by row, and R26 from the condition at the head of the encoding. -/
theorem conditionsFollowTheTable : Obligations.ConditionsFollowTheTable := by
  refine ⟨by decide, fun s => ?_, fun i w c s hw hc hp hpc => exec_failed hw hc hp hpc⟩
  exact ⟨rfl, rfl, rfl, rfl, rfl, rfl, rfl, rfl, passed_hi_iff s, passed_ls_iff s, passed_ge_iff s, passed_lt_iff s,
    passed_gt_iff s, passed_le_iff s, rfl⟩

end Sys2Proof.Machine
end

section
/-! Proofs. The barrel shifter as arithmetic: O18. -/

namespace Sys2Proof.Machine

/-! ## The rows of the shifter table as arithmetic (R17) -/

theorem shift_zero (v : Word) (ty : ShiftType) (c : Bool) : shift v ty 0 c = (v, c) := rfl

theorem shift_lsl_of_pos (v : Word) {k : Nat} (c : Bool) (hk : 0 < k) : shift v .lsl k c =
    if k ≤ 31 then (v <<< k, v.getLsbD (32 - k)) else if k = 32 then (0, v.getLsbD 0) else (0, false) :=
  if_neg hk.ne'

theorem shift_lsr_of_pos (v : Word) {k : Nat} (c : Bool) (hk : 0 < k) : shift v .lsr k c =
    if k ≤ 31 then (v >>> k, v.getLsbD (k - 1)) else if k = 32 then (0, v.getLsbD 31) else (0, false) :=
  if_neg hk.ne'

theorem shift_asr_of_pos (v : Word) {k : Nat} (c : Bool) (hk : 0 < k) : shift v .asr k c =
    if k ≤ 31 then (v.sshiftRight k, v.getLsbD (k - 1)) else (v.sshiftRight 31, v.getLsbD 31) :=
  if_neg hk.ne'

theorem shift_ror_of_pos (v : Word) {k : Nat} (c : Bool) (hk : 0 < k) :
    shift v .ror k c = (v.rotateRight (k % 32), v.getLsbD ((k - 1) % 32)) :=
  if_neg hk.ne'

/-- LSL multiplies; the carry is bit 32 of the product. -/
theorem shift_lsl (v : Word) {k : Nat} (c : Bool) (hk : 0 < k) :
    shift v .lsl k c = (BitVec.ofNat 32 (v.toNat * 2 ^ k), (v.toNat * 2 ^ k).testBit 32) := by
  have hval : BitVec.ofNat 32 (v.toNat * 2 ^ k) = v <<< k :=
    BitVec.eq_of_toNat_eq (by simp [Nat.shiftLeft_eq])
  have hcarry : (v.toNat * 2 ^ k).testBit 32 = (decide (k ≤ 32) && v.getLsbD (32 - k)) := by
    simp [Nat.testBit_mul_two_pow, BitVec.testBit_toNat]
  rw [shift_lsl_of_pos v c hk, hval, hcarry]
  split
  · rw [decide_eq_true (by omega), Bool.true_and]
  · rw [BitVec.shiftLeft_eq_zero (by omega)]
    split
    · next h => subst h; rfl
    · rw [decide_eq_false (by omega), Bool.false_and]; rfl

/-- LSR divides the unsigned value; the carry is the last bit shifted out. -/
theorem shift_lsr (v : Word) {k : Nat} (c : Bool) (hk : 0 < k) :
    shift v .lsr k c = (BitVec.ofNat 32 (v.toNat / 2 ^ k), v.toNat.testBit (k - 1)) := by
  have hval : BitVec.ofNat 32 (v.toNat / 2 ^ k) = v >>> k :=
    BitVec.eq_of_toNat_eq <| by
      rw [BitVec.toNat_ofNat, BitVec.toNat_ushiftRight, Nat.shiftRight_eq_div_pow,
        Nat.mod_eq_of_lt ((Nat.div_le_self ..).trans_lt v.isLt)]
  rw [shift_lsr_of_pos v c hk, hval, BitVec.testBit_toNat]
  split
  · rfl
  · rw [BitVec.ushiftRight_eq_zero (by omega)]
    split
    · next h => subst h; rfl
    · rw [BitVec.getLsbD_of_ge _ _ (by omega)]; rfl

/-- An arithmetic shift right divides the signed value, rounding down. -/
theorem toInt_div_two_pow (v : Word) (k : Nat) : v.toInt / 2 ^ k = (v.sshiftRight k).toInt := by
  rw [BitVec.toInt_sshiftRight, Int.shiftRight_eq_div_pow, Nat.cast_pow, Nat.cast_ofNat]

/-- The signed and the unsigned value have the same lowest bit. -/
theorem decide_toInt_odd (v : Word) : decide (v.toInt % 2 = 1) = v.getLsbD 0 := by
  rw [← BitVec.testBit_toNat, Nat.testBit_zero, BitVec.toInt_eq_toNat_cond]
  congr 1
  split <;> grind

/-- Bit `j` of the sign-extended value is the lowest bit of its quotient by `2 ^ j`. -/
theorem decide_toInt_div_odd (v : Word) (j : Nat) :
    decide (v.toInt / 2 ^ j % 2 = 1) = if j < 32 then v.getLsbD j else v.msb := by
  rw [toInt_div_two_pow, decide_toInt_odd, BitVec.getLsbD_sshiftRight]
  simp

/-- Beyond 31, an arithmetic shift right leaves only the sign. -/
theorem sshiftRight_of_le (v : Word) {k : Nat} (hk : 32 ≤ k) : v.sshiftRight k = v.sshiftRight 31 := by
  refine BitVec.eq_of_getLsbD_eq fun i hi => ?_
  rw [BitVec.getLsbD_sshiftRight, BitVec.getLsbD_sshiftRight, if_neg (by omega)]
  split
  · next h => rw [show 31 + i = 32 - 1 by omega, ← BitVec.msb_eq_getLsbD_last]
  · rfl

/-- ASR divides the signed value; the carry is the last bit shifted out. -/
theorem shift_asr (v : Word) {k : Nat} (c : Bool) (hk : 0 < k) :
    shift v .asr k c = (BitVec.ofInt 32 (v.toInt / 2 ^ k), decide (v.toInt / 2 ^ (k - 1) % 2 = 1)) := by
  rw [shift_asr_of_pos v c hk, decide_toInt_div_odd, toInt_div_two_pow, BitVec.ofInt_toInt]
  by_cases h : k ≤ 31
  · rw [if_pos h, if_pos (by omega)]
  · rw [if_neg h, sshiftRight_of_le v (k := k) (by omega), ← BitVec.msb_eq_getLsbD_last]
    split
    · next h' => rw [show k - 1 = 32 - 1 by omega, ← BitVec.msb_eq_getLsbD_last]
    · rfl

/-- A rotation right by `r` brings bit `j + r`, counted round the word, to bit `j`. -/
theorem getLsbD_rotateRight_mod (v : Word) {r j : Nat} (hj : j < 32) :
    (v.rotateRight r).getLsbD j = v.getLsbD ((j + r) % 32) := by
  rw [BitVec.getLsbD_rotateRight]
  have hr := Nat.mod_lt r (show 32 > 0 by decide)
  by_cases h : j < 32 - r % 32
  · rw [decide_eq_true h, cond_true]; congr 1; omega
  · rw [decide_eq_false h, cond_false, decide_eq_true hj, Bool.true_and]; congr 1; omega

/-- ROR rotates, and the carry is the highest bit of the result. -/
theorem shift_ror (v : Word) {k : Nat} (c : Bool) (hk : 0 < k) :
    (shift v .ror k c).2 = (shift v .ror k c).1.msb ∧
      ∀ j, j < 32 → (shift v .ror k c).1.getLsbD j = v.getLsbD ((j + k) % 32) := by
  have hbit : ∀ j, j < 32 → (v.rotateRight (k % 32)).getLsbD j = v.getLsbD ((j + k) % 32) := fun j hj => by
    rw [getLsbD_rotateRight_mod v hj, Nat.add_mod_mod]
  rw [shift_ror_of_pos v c hk]
  refine ⟨?_, hbit⟩
  rw [BitVec.msb_eq_getLsbD_last, hbit 31 (by decide), show (31 + k) % 32 = (k - 1) % 32 by omega]

/-- RRX puts the old carry above the 31 high bits of the value. -/
theorem rrx_eq_cons (v : Word) (c : Bool) : (rrx v c).1 = BitVec.cons c (v.extractLsb' 1 31) := by
  refine BitVec.eq_of_getLsbD_eq fun j hj => ?_
  rw [rrx, setBit_getLsbD _ _ _ _ (by decide) hj, BitVec.getLsbD_cons]
  split
  · rfl
  · rw [BitVec.getLsbD_ushiftRight, BitVec.getLsbD_extractLsb', decide_eq_true (by omega), Bool.true_and]

/-- RRX halves the value and takes the carry in at the top. -/
theorem rrx_toNat (v : Word) (c : Bool) : (rrx v c).1.toNat = v.toNat / 2 + (if c then 2 ^ 31 else 0) := by
  have hlt : v.toNat / 2 < 2 ^ 31 := by omega
  rw [rrx_eq_cons, BitVec.toNat_cons', BitVec.extractLsb'_toNat, Nat.shiftRight_one, Nat.mod_eq_of_lt hlt, Nat.add_comm]
  cases c <;> rfl

/-! ## The operands made of them (R13, R139, R220, R305, R321) -/

/-- A rotated immediate is the byte rotated right by twice the field (R13). -/
theorem rotImm_getLsbD (op : RotatedImm) (c : Bool) {j : Nat} (hj : j < 32) :
    (rotImm op c).1.getLsbD j =
      (decide ((j + 2 * op.rotate.toNat) % 32 < 8) && op.imm.getLsbD ((j + 2 * op.rotate.toNat) % 32)) := by
  rw [rotImm, getLsbD_rotateRight_mod _ hj, BitVec.getLsbD_setWidth, decide_eq_true (Nat.mod_lt _ (by decide)),
    Bool.true_and]
  by_cases h : (j + 2 * op.rotate.toNat) % 32 < 8
  · rw [decide_eq_true h, Bool.true_and]
  · rw [decide_eq_false h, Bool.false_and, BitVec.getLsbD_of_ge _ _ (by omega)]

/-- A register amount is the low byte of the register (R18). -/
theorem operand2_shiftReg (s : State) (r : ShiftByReg) :
    s.operand2 (.shiftReg r) = shift (s.reg r.rm) r.ty ((s.reg r.rs).extractLsb' 0 8).toNat s.flagC := by
  rw [BitVec.extractLsb'_toNat]; rfl

theorem wordOffset_imm (s : State) (imm : BitVec 12) : s.wordOffset (.imm imm) = BitVec.ofNat 32 imm.toNat :=
  (BitVec.ofNat_toNat ..).symm

theorem halfOffset_imm (s : State) (imm : BitVec 8) : s.halfOffset (.imm imm) = BitVec.ofNat 32 imm.toNat :=
  (BitVec.ofNat_toNat ..).symm

theorem msrOperand_reg (s : State) {rm : RegNum} (h : rm ≠ 15) : s.msrOperand (.reg rm) = .ok (s.reg rm) := if_neg h

/-- Settles O18: the operand forms are the shifter's by definition, and each row of the table is its own lemma above. -/
theorem shifterFollowsTheTable : Obligations.ShifterFollowsTheTable := by
  refine ⟨fun s r i n rm i12 i8 => ?operands, fun v k c => ?rows, fun v n c op => ?immediates⟩
  case operands =>
    exact ⟨rfl, rfl, operand2_shiftReg s r, rfl, msrOperand_reg s, wordOffset_imm s i12, rfl, halfOffset_imm s i8, rfl⟩
  case rows =>
    exact ⟨fun ty => shift_zero v ty c, shift_lsl v c, shift_lsr v c, shift_asr v c, shift_ror v c, rfl, rrx_toNat v c⟩
  case immediates =>
    exact ⟨rfl, rfl, rfl, rfl, fun _ hj => rotImm_getLsbD op c hj, rfl⟩

end Sys2Proof.Machine
end

section
/-! Proofs. The modes, the spsrs and the register banks: O12. -/

namespace Sys2Proof.Machine

/-! ## The mode numbers (R45, R48) -/

theorem Mode.ofBits_bits (m : Mode) : Mode.ofBits m.bits = some m := by cases m <;> rfl

/-- A number is a mode exactly where it is that mode's number. -/
theorem Mode.ofBits_eq_some_iff (b : BitVec 5) (m : Mode) : Mode.ofBits b = some m ↔ b = m.bits := by
  refine ⟨fun h => BitVec.eq_of_toNat_eq ?_, fun h => h ▸ Mode.ofBits_bits m⟩
  unfold Mode.ofBits at h
  split at h <;> cases h <;> assumption

/-- Table B.3 lists the numbers of the modes. -/
theorem Mode.eq_bits_iff_mem_table (b : BitVec 5) (m : Mode) : b = m.bits ↔
    (b.toNat, m) ∈ [(0x10, Mode.usr), (0x11, .fiq), (0x12, .irq), (0x13, .svc), (0x17, .abt), (0x1B, .und),
      (0x1F, .sys)] := by
  rw [← BitVec.toNat_inj]
  cases m <;> simp [Mode.bits]

theorem Mode.bits_eq_usr_iff (m : Mode) : m.bits = 0x10 ↔ m = .usr := by cases m <;> decide

theorem State.modeField_eq_bits {s : State} {m : Mode} (h : s.mode? = some m) : modeField s.cpsr = m.bits :=
  (Mode.ofBits_eq_some_iff _ m).mp h

theorem State.privileged_iff {s : State} {m : Mode} (h : s.mode? = some m) : s.privileged = true ↔ m ≠ .usr := by
  rw [State.privileged, State.modeField_eq_bits h, bne_iff_ne, Ne, Mode.bits_eq_usr_iff]

/-! ## The spsrs (R47) -/

theorem State.spsrIndex?_of_mode {s : State} {m : Mode} (h : s.mode? = some m) : s.spsrIndex? = m.spsrIndex := by
  rw [State.spsrIndex?, h, Option.bind_some]

theorem State.spsr?_of_mode {s : State} {m : Mode} (h : s.mode? = some m) :
    s.spsr? = m.spsrIndex.map fun k => s.spsr[k.val] := by
  rw [State.spsr?, State.spsrIndex?_of_mode h]

theorem Mode.spsrIndex_eq_none_iff (m : Mode) : m.spsrIndex = none ↔ m = .usr ∨ m = .sys := by cases m <;> decide

/-- The mode that saves its caller's status in each spsr. -/
def modeOfSpsr (k : Fin 5) : Mode :=
  match k with
  | 0 => .fiq
  | 1 => .irq
  | 2 => .svc
  | 3 => .abt
  | 4 => .und

theorem Mode.eq_modeOfSpsr {m : Mode} {k : Fin 5} (h : m.spsrIndex = some k) : m = modeOfSpsr k := by
  cases m <;> cases h <;> rfl

/-! ## The banks (R44, R46) -/

/-- The mode whose copy of register `i` the mode `m` uses: its own where it has one, user mode's otherwise. -/
def Mode.owner (m : Mode) (i : RegNum) : Mode :=
  match m with
  | .usr | .sys => .usr
  | .fiq => if i.val < 8 then .usr else .fiq
  | .irq | .svc | .abt | .und => if i.val < 13 then .usr else m

theorem Mode.owner_of_lt_eight (m : Mode) {i : RegNum} (h : i.val < 8) : m.owner i = .usr := by
  have h13 : i.val < 13 := by omega
  cases m <;> simp [Mode.owner, h, h13]

theorem Mode.owner_of_lt_thirteen {m : Mode} {i : RegNum} (hm : m ≠ .fiq) (h : i.val < 13) : m.owner i = .usr := by
  cases m <;> simp [Mode.owner, h] at hm ⊢

theorem Mode.owner_fiq {i : RegNum} (h : 8 ≤ i.val) : Mode.fiq.owner i = .fiq := if_neg (by omega)

theorem Mode.owner_eq_self {m : Mode} {i : RegNum} (hm : m ≠ .sys) (h : 13 ≤ i.val) : m.owner i = m := by
  have h8 : ¬ i.val < 8 := by omega
  have h13 : ¬ i.val < 13 := by omega
  cases m <;> simp [Mode.owner, h8, h13] at hm ⊢

/-- A mode uses its own copy or that of user mode. -/
theorem Mode.owner_eq_self_or_usr (m : Mode) (i : RegNum) : m.owner i = m ∨ m.owner i = .usr := by
  cases m with
  | usr => exact .inl rfl
  | sys => exact .inr rfl
  | fiq | irq | svc | abt | und => exact (ite_eq_or_eq ..).symm

/-- A mode reads register `i` in the place where its owner does. -/
theorem bank_owner (m : Mode) (i : RegNum) : bank (some (m.owner i)) i = bank (some m) i := by
  revert i; cases m <;> decide

/-- The register whose copy is in place `k`, and the mode that owns the copy: `bank` read backwards. -/
def copyAt (k : Fin 30) : RegNum × Mode :=
  if k.val < 15 then (Fin.ofNat 16 k.val, .usr)
  else if k.val < 22 then (Fin.ofNat 16 (k.val - 7), .fiq)
  else if k.val < 24 then (Fin.ofNat 16 (k.val - 9), .irq)
  else if k.val < 26 then (Fin.ofNat 16 (k.val - 11), .svc)
  else if k.val < 28 then (Fin.ofNat 16 (k.val - 13), .abt)
  else (Fin.ofNat 16 (k.val - 15), .und)

theorem copyAt_bank (m : Mode) {i : RegNum} (hi : i ≠ 15) :
    (bank (some m) i).map copyAt = some (i, m.owner i) := by
  revert i; cases m <;> decide

/-- Two modes share a copy exactly where they name the same register and the same mode owns both. -/
theorem bank_eq_bank_iff (m n : Mode) {i j : RegNum} (hi : i ≠ 15) (hj : j ≠ 15) :
    bank (some m) i = bank (some n) j ↔ i = j ∧ m.owner i = n.owner j := by
  constructor
  · intro h
    have hcopy : some (i, m.owner i) = some (j, n.owner j) := by rw [← copyAt_bank m hi, h, copyAt_bank n hj]
    exact Prod.mk.inj (Option.some.inj hcopy)
  · rintro ⟨rfl, howner⟩
    rw [← bank_owner m, howner, bank_owner]

/-- A mode shares user mode's copy of a register it has no own copy of. -/
theorem bank_eq_usr {m : Mode} {i : RegNum} (h : m.owner i = .usr) : bank (some m) i = bank (some .usr) i := by
  rw [← bank_owner m, h]

/-- FIQ's own copies are no copies of user mode (R46). -/
theorem bank_fiq_ne_usr {i j : RegNum} (hlo : 8 ≤ i.val) (hhi : i.val < 15) :
    bank (some .fiq) i ≠ bank (some .usr) j := by
  intro h
  have hi : i ≠ 15 := fun e => by simp [e] at hhi
  have hj : j ≠ 15 := fun e => hi ((bank_eq_none _ i).mp (h.trans ((bank_eq_none _ j).mpr e)))
  obtain ⟨-, howner⟩ := (bank_eq_bank_iff .fiq .usr hi hj).mp h
  rw [Mode.owner_fiq hlo] at howner
  cases howner

/-- An exception mode's own r13 and r14 are copies of no other mode (R46). -/
theorem bank_exception_ne {m n : Mode} {i j : RegNum} (hm : m ∉ [Mode.usr, .sys]) (hmn : m ≠ n)
    (hi : i ∈ [(13 : RegNum), 14]) (hj : j.val < 15) : bank (some m) i ≠ bank (some n) j := by
  have ⟨husr, hsys⟩ : m ≠ .usr ∧ m ≠ .sys := by simpa using hm
  have ⟨h13, h15⟩ : 13 ≤ i.val ∧ i ≠ 15 := by
    rcases List.mem_pair.mp hi with rfl | rfl <;> decide
  have hj15 : j ≠ 15 := fun e => by simp [e] at hj
  rw [Ne, bank_eq_bank_iff m n h15 hj15, Mode.owner_eq_self hsys h13]
  rintro ⟨-, howner⟩
  rcases n.owner_eq_self_or_usr j with hn | hn
  · exact hmn (howner.trans hn)
  · exact husr (howner.trans hn)

/-! ## A register read after a register write (R21, R44) -/

/-- A register is read from its copy, whichever mode and number name it. -/
theorem State.regIn_eq_of_bank_eq (s : State) {m n : Option Mode} {i j : RegNum} (h : bank n j = bank m i) :
    s.regIn n j = s.regIn m i := by
  rw [State.regIn, State.regIn, h]

/-- A register whose copy is not written keeps its value, in every mode. -/
theorem State.regIn_setRegIn_of_bank_ne (s : State) {m n : Option Mode} {i j : RegNum} (v : Word) (hj : j ≠ 15)
    (h : bank n j ≠ bank m i) : (s.setRegIn m i v).regIn n j = s.regIn n j := by
  obtain ⟨k, hk⟩ := Option.ne_none_iff_exists'.mp (mt (bank_eq_none n j).mp hj)
  have hread : ∀ t : State, t.regIn n j = t.regs[k.val] := fun t => by rw [State.regIn, hk]
  rw [hread, hread, s.setRegIn_regs_ne m i v k fun e => h (hk.trans e.symm)]

theorem State.regIn_setRegIn (s : State) (m n : Option Mode) {i j : RegNum} (v : Word) (hi : i ≠ 15) (hj : j ≠ 15) :
    (s.setRegIn m i v).regIn n j = if bank n j = bank m i then v else s.regIn n j := by
  split
  next h => rw [State.regIn_eq_of_bank_eq _ h, s.regIn_setRegIn_self m i v hi]
  next h => exact s.regIn_setRegIn_of_bank_ne v hj h

/-- Settles O12: the mode numbers are a table read both ways; a mode has a copy of its own or shares user mode's, as
`Mode.owner` says, and a register write reaches that copy alone. -/
theorem registersAreBanked : Obligations.RegistersAreBanked := by
  refine ⟨?numbers, ?mode, ?current, Mode.spsrIndex_eq_none_iff, ?spsrs, ?low, ?notFiq, ?sys, ?fiq, ?exceptions,
    fun m => bank_injective m, ?write⟩
  case numbers => exact fun b m => (Mode.ofBits_eq_some_iff b m).trans (Mode.eq_bits_iff_mem_table b m)
  case mode => exact fun _ => rfl
  case current => exact fun _ _ h => ⟨State.privileged_iff h, State.spsrIndex?_of_mode h, State.spsr?_of_mode h⟩
  case spsrs => exact fun _ _ _ hm hn => (Mode.eq_modeOfSpsr hm).trans (Mode.eq_modeOfSpsr hn).symm
  case low => exact fun m _ hi => bank_eq_usr (m.owner_of_lt_eight hi)
  case notFiq => exact fun _ _ hm hi => bank_eq_usr (Mode.owner_of_lt_thirteen hm hi)
  case sys => exact fun _ => bank_eq_usr rfl
  case fiq => exact fun _ _ hlo hhi => bank_fiq_ne_usr hlo hhi
  case exceptions => exact fun _ _ _ _ hm hmn hi hj => bank_exception_ne hm hmn hi hj
  case write => exact fun s m n _ _ v hi hj => s.regIn_setRegIn m n v hi hj

end Sys2Proof.Machine
end

section
/-! Proofs. Data accesses: the bytes of a value, the alignment rules: O13, O14. -/

namespace Sys2Proof.Machine

/-! ## Bytes and values (R92 to R94) -/

/-- A value one byte longer at the bottom. -/
theorem shiftLeft_eight_or (n : Nat) (y : BitVec n) (b : Byte) :
    (y.setWidth 32 <<< 8) ||| b.setWidth 32 = (y ++ b).setWidth 32 := by
  refine BitVec.eq_of_getLsbD_eq fun i hi => ?_
  simp only [BitVec.getLsbD_or, BitVec.getLsbD_shiftLeft, BitVec.getLsbD_setWidth, BitVec.getLsbD_append, hi,
    decide_true, Bool.true_and]
  by_cases h : i < 8
  · simp [h]
  · simp [h, show i - 8 < 32 by omega, BitVec.getLsbD_of_ge b i (by omega)]

theorem packLittle_one (b : Byte) : packLittle [b] = b.setWidth 32 := by simp [packLittle]

theorem packLittle_two (b0 b1 : Byte) : packLittle [b0, b1] = (b1 ++ b0).setWidth 32 := by
  rw [packLittle, packLittle_one, shiftLeft_eight_or]

theorem packLittle_four (b0 b1 b2 b3 : Byte) : packLittle [b0, b1, b2, b3] = b3 ++ b2 ++ b1 ++ b0 := by
  rw [packLittle, packLittle, packLittle_two, shiftLeft_eight_or, shiftLeft_eight_or, BitVec.setWidth_eq]

/-- Byte `i` of a value is byte `i` of the list, counted from the least significant; there are no more bytes. -/
theorem packLittle_getLsbD (bs : List Byte) {j : Nat} (hj : j < 32) :
    (packLittle bs).getLsbD j = (bs.getD (j / 8) 0).getLsbD (j % 8) := by
  induction bs generalizing j with
  | nil => simp [packLittle]
  | cons b bs ih =>
    rw [packLittle, BitVec.getLsbD_or, BitVec.getLsbD_shiftLeft, BitVec.getLsbD_setWidth]
    by_cases h : j < 8
    · simp [h, hj, Nat.div_eq_of_lt h, Nat.mod_eq_of_lt h]
    · have hdiv : j / 8 = (j - 8) / 8 + 1 := by omega
      have hmod : (j - 8) % 8 = j % 8 := by omega
      rw [ih (by omega), hmod, hdiv]
      simp [h, hj, BitVec.getLsbD_of_ge b j (by omega)]

theorem packLittle_extractLsb' (bs : List Byte) {i : Nat} (hi : i < 4) :
    (packLittle bs).extractLsb' (8 * i) 8 = bs.getD i 0 := by
  refine BitVec.eq_of_getLsbD_eq fun j hj => ?_
  rw [BitVec.getLsbD_extractLsb', packLittle_getLsbD _ (by omega), show (8 * i + j) / 8 = i by omega,
    show (8 * i + j) % 8 = j by omega]
  simp [hj]

/-- A value of `n` bytes is less than `2 ^ (8 * n)`. -/
theorem packLittle_lt (bs : List Byte) : (packLittle bs).toNat < 2 ^ (8 * bs.length) := by
  refine Nat.lt_pow_two_of_testBit _ fun j hj => ?_
  rw [BitVec.testBit_toNat]
  by_cases h : j < 32
  · rw [packLittle_getLsbD _ h, List.getD_eq_default _ _ (by omega)]; simp
  · exact BitVec.getLsbD_of_ge _ _ (by omega)

theorem length_unpackLittle (v : Word) (n : Nat) : (unpackLittle v n).length = n := by
  induction n generalizing v with
  | zero => rfl
  | succ n ih => simp [unpackLittle, ih]

@[simp] theorem length_unpackData (big : Bool) (v : Word) (n : Nat) : (unpackData big v n).length = n := by
  cases big <;> simp [unpackData, length_unpackLittle]

theorem getD_unpackLittle (v : Word) {n i : Nat} (hi : i < n) : (unpackLittle v n).getD i 0 = v.extractLsb' (8 * i) 8 := by
  induction n generalizing v i with
  | zero => omega
  | succ n ih =>
    cases i with
    | zero => simp [unpackLittle, BitVec.setWidth_eq_extractLsb']
    | succ i =>
      rw [unpackLittle, List.getD_cons_succ, ih _ (by omega)]
      refine BitVec.eq_of_getLsbD_eq fun j hj => ?_
      simp only [BitVec.getLsbD_extractLsb', BitVec.getLsbD_ushiftRight]
      congr 2; omega

/-- Where byte `i` of memory stands in a value of `n` bytes: at the other end when E is set (R92). -/
def bytePlace (big : Bool) (n i : Nat) : Nat := if big then n - 1 - i else i

theorem getD_bytePlace (big : Bool) (bs : List Byte) {i : Nat} (hi : i < bs.length) :
    (if big then bs.reverse else bs).getD (bytePlace big bs.length i) 0 = bs.getD i 0 := by
  cases big with
  | false => rfl
  | true =>
    simp only [bytePlace, if_true, List.getD_eq_getElem?_getD]
    rw [List.getElem?_reverse (by omega), show bs.length - 1 - (bs.length - 1 - i) = i by omega]

theorem packData_extractLsb' (big : Bool) (bs : List Byte) {i : Nat} (hi : i < bs.length) (hn : bs.length ≤ 4) :
    (packData big bs).extractLsb' (8 * bytePlace big bs.length i) 8 = bs.getD i 0 := by
  have hp : bytePlace big bs.length i < 4 := by unfold bytePlace; split <;> omega
  rw [packData, packLittle_extractLsb' _ hp, getD_bytePlace big bs hi]

theorem packData_lt (big : Bool) (bs : List Byte) : (packData big bs).toNat < 2 ^ (8 * bs.length) := by
  have h := packLittle_lt (if big then bs.reverse else bs)
  cases big <;> simpa [packData] using h

theorem getD_unpackData (big : Bool) (v : Word) {n i : Nat} (hi : i < n) :
    (unpackData big v n).getD i 0 = v.extractLsb' (8 * bytePlace big n i) 8 := by
  cases big with
  | false => exact getD_unpackLittle v hi
  | true =>
    simp only [unpackData, bytePlace, if_true, List.getD_eq_getElem?_getD]
    rw [List.getElem?_reverse (by rwa [length_unpackLittle]), length_unpackLittle, ← List.getD_eq_getElem?_getD,
      getD_unpackLittle v (by omega)]

/-! ## The bytes of memory (R90) -/

@[simp] theorem State.length_bytesAt (s : State) (a : Word) (n : Nat) : (s.bytesAt a n).length = n := by
  induction n generalizing a with
  | zero => rfl
  | succ n ih => simp [State.bytesAt, ih]

theorem add_one_add_ofNat (a : Word) (k : Nat) : a + 1 + BitVec.ofNat 32 k = a + BitVec.ofNat 32 (k + 1) := by
  rw [BitVec.add_assoc, BitVec.add_comm 1, BitVec.ofNat_add]; rfl

theorem State.getD_bytesAt (s : State) (a : Word) {n i : Nat} (hi : i < n) :
    (s.bytesAt a n).getD i 0 = s.byte (a + BitVec.ofNat 32 i) := by
  induction n generalizing a i with
  | zero => omega
  | succ n ih =>
    cases i with
    | zero => simp [State.bytesAt]
    | succ i => rw [State.bytesAt, List.getD_cons_succ, ih _ (by omega), add_one_add_ofNat]

/-- A byte stored is the byte read back. -/
theorem State.byte_setBytes (s : State) (a : Word) (bs : List Byte) (hn : bs.length ≤ 2 ^ 32) {i : Nat}
    (hi : i < bs.length) : (s.setBytes a bs).byte (a + BitVec.ofNat 32 i) = bs.getD i 0 := by
  rw [← State.getD_bytesAt _ _ hi, State.bytesAt_setBytes s a bs hn]

theorem State.sameMemoryBut_setBytes (s : State) (a : Word) (bs : List Byte) :
    SameMemoryBut s (s.setBytes a bs) a bs.length := fun b hb => s.byte_setBytes_outside a b bs hb

/-! ## Accesses -/

theorem State.memRead_wrap {s : State} {a : Word} {n : Nat} (priv : Bool) (h : crossesTop a n = true) :
    s.memRead a n priv = unpredictable .addressWrap := by simp [State.memRead, h]

theorem State.memWrite_wrap {s : State} {a : Word} {n : Nat} (v : Word) (priv : Bool) (h : crossesTop a n = true) :
    s.memWrite a n v priv = unpredictable .addressWrap := by simp [State.memWrite, h]

/-- Settles O13: the value of a read and the bytes of a write, byte by byte, in the places that E gives them. -/
theorem accessesPackBytesByEndianness : Obligations.AccessesPackBytesByEndianness := by
  intro s a v n priv hn place
  have hn4 : n ≤ 4 := by
    simp only [List.mem_cons, List.not_mem_nil, or_false] at hn; omega
  refine ⟨fun hw => ⟨State.memRead_wrap priv hw, State.memWrite_wrap v priv hw⟩, fun hw =>
    ⟨fun ha => State.memRead_abort hw ha, fun ha => ?read, fun ha => State.memWrite_abort hw ha, fun ha => ?write⟩⟩
  case read =>
    refine ⟨_, State.memRead_open hw ha, ?_, fun i hi => ?_⟩
    · simpa using packData_lt s.bigEndian (s.bytesAt a n)
    · have h := packData_extractLsb' s.bigEndian (s.bytesAt a n) (i := i) (by simpa using hi) (by simpa using hn4)
      rwa [State.length_bytesAt, State.getD_bytesAt s a hi] at h
  case write =>
    refine ⟨_, State.memWrite_open hw ha, fun i hi => ?_, ?_, State.setBytes_eq s a _⟩
    · rw [State.byte_setBytes s a _ (by simp; omega) (by simpa using hi), getD_unpackData _ _ hi]; rfl
    · simpa using s.sameMemoryBut_setBytes a (unpackData s.bigEndian v n)

/-! ## Alignment (R104 to R106) -/

/-- The low `k` bits of an address are its remainder. -/
theorem toNat_and_low_bits (a : Word) {k : Nat} (hk : k < 32) :
    (a &&& BitVec.ofNat 32 (2 ^ k - 1)).toNat = a.toNat % 2 ^ k := by
  have hlt : 2 ^ k < 2 ^ 32 := Nat.pow_lt_pow_right (by decide) hk
  rw [BitVec.toNat_and, BitVec.toNat_ofNat, Nat.mod_eq_of_lt (by omega), Nat.and_two_pow_sub_one_eq_mod]

theorem toNat_and_one (a : Word) : (a &&& 1).toNat = a.toNat % 2 := toNat_and_low_bits a (k := 1) (by decide)

theorem toNat_and_three (a : Word) : (a &&& 3).toNat = a.toNat % 4 := toNat_and_low_bits a (k := 2) (by decide)

theorem and_one_eq_zero_iff (a : Word) : a &&& 1 = 0 ↔ a.toNat % 2 = 0 := by
  rw [← BitVec.toNat_inj, toNat_and_one]; rfl

theorem and_three_eq_zero_iff (a : Word) : a &&& 3 = 0 ↔ a.toNat % 4 = 0 := by
  rw [← BitVec.toNat_inj, toNat_and_three]; rfl

theorem getLsbD_zero_eq (a : Word) : a.getLsbD 0 = (a &&& 1 != 0) := by
  rw [← BitVec.testBit_toNat, Nat.testBit_zero, Bool.eq_iff_iff, decide_eq_true_iff, bne_iff_ne, Ne, and_one_eq_zero_iff]
  omega

theorem wordAligned_iff (a : Word) : wordAligned a = true ↔ a &&& 3 = 0 := beq_iff_eq

theorem halfAligned_iff (a : Word) : (!a.getLsbD 0) = true ↔ a &&& 1 = 0 := by
  rw [getLsbD_zero_eq, bne, Bool.not_not, beq_iff_eq]

section
variable {s : State} {a : Word} (v : Word) (priv : Bool)

theorem State.loadWord_at (h : a &&& 3 = 0 ∨ (s.aBit = false ∧ s.uBit = true)) :
    s.loadWord a priv = s.memRead a 4 priv := by
  rw [State.loadWord]
  rcases h with h | ⟨ha, hu⟩
  · rw [if_pos ((wordAligned_iff a).mpr h)]
  · simp [ha, hu]

theorem State.storeWord_at (h : a &&& 3 = 0 ∨ (s.aBit = false ∧ s.uBit = true)) :
    s.storeWord a v priv = s.memWrite a 4 v priv := by
  rw [State.storeWord]
  rcases h with h | ⟨ha, hu⟩
  · rw [if_pos ((wordAligned_iff a).mpr h)]
  · simp [ha, hu]

theorem State.loadHalf_at (h : a &&& 1 = 0 ∨ (s.aBit = false ∧ s.uBit = true)) :
    s.loadHalf a priv = s.memRead a 2 priv := by
  rw [State.loadHalf]
  rcases h with h | ⟨ha, hu⟩
  · rw [if_pos ((halfAligned_iff a).mpr h)]
  · simp [ha, hu]

theorem State.storeHalf_at (h : a &&& 1 = 0 ∨ (s.aBit = false ∧ s.uBit = true)) :
    s.storeHalf a v priv = s.memWrite a 2 v priv := by
  rw [State.storeHalf]
  rcases h with h | ⟨ha, hu⟩
  · rw [if_pos ((halfAligned_iff a).mpr h)]
  · simp [ha, hu]

theorem State.loadWord_strict (h : a &&& 3 ≠ 0) (ha : s.aBit = true) : s.loadWord a priv = raise .dataAbort s := by
  rw [State.loadWord, if_neg (mt (wordAligned_iff a).mp h), if_pos ha]

theorem State.storeWord_strict (h : a &&& 3 ≠ 0) (ha : s.aBit = true) : s.storeWord a v priv = raise .dataAbort s := by
  rw [State.storeWord, if_neg (mt (wordAligned_iff a).mp h), if_pos ha]

theorem State.loadHalf_strict (h : a &&& 1 ≠ 0) (ha : s.aBit = true) : s.loadHalf a priv = raise .dataAbort s := by
  rw [State.loadHalf, if_neg (mt (halfAligned_iff a).mp h), if_pos ha]

theorem State.storeHalf_strict (h : a &&& 1 ≠ 0) (ha : s.aBit = true) : s.storeHalf a v priv = raise .dataAbort s := by
  rw [State.storeHalf, if_neg (mt (halfAligned_iff a).mp h), if_pos ha]

/-- With A and U clear an unaligned word load is that of the containing word, rotated (R105). -/
theorem State.loadWord_rotated (h : a &&& 3 ≠ 0) (ha : s.aBit = false) (hu : s.uBit = false) :
    s.loadWord a priv = s.memRead (wordBase a) 4 priv >>= fun w => .ok (w.rotateRight (8 * (a &&& 3).toNat)) := by
  rw [State.loadWord, if_neg (mt (wordAligned_iff a).mp h), ha, hu]; rfl

/-- With A and U clear an unaligned word store goes to the containing word (R106). -/
theorem State.storeWord_base (h : a &&& 3 ≠ 0) (ha : s.aBit = false) (hu : s.uBit = false) :
    s.storeWord a v priv = s.memWrite (wordBase a) 4 v priv := by
  rw [State.storeWord, if_neg (mt (wordAligned_iff a).mp h), ha, hu]; rfl

theorem State.loadHalf_unpredictable (h : a &&& 1 ≠ 0) (ha : s.aBit = false) (hu : s.uBit = false) :
    s.loadHalf a priv = unpredictable .unalignedUnpredictable := by
  rw [State.loadHalf, if_neg (mt (halfAligned_iff a).mp h), ha, hu]; rfl

theorem State.storeHalf_unpredictable (h : a &&& 1 ≠ 0) (ha : s.aBit = false) (hu : s.uBit = false) :
    s.storeHalf a v priv = unpredictable .unalignedUnpredictable := by
  rw [State.storeHalf, if_neg (mt (halfAligned_iff a).mp h), ha, hu]; rfl

end

/-- Settles O14: one lemma for each access and each row of R105 and R106. -/
theorem unalignedAccessesFollowAAndU : Obligations.UnalignedAccessesFollowAAndU := by
  intro s a v priv base
  refine ⟨fun h => ⟨State.loadWord_at priv h, State.storeWord_at v priv h⟩,
    fun h => ⟨State.loadHalf_at priv h, State.storeHalf_at v priv h⟩,
    fun h ha => ⟨State.loadWord_strict priv h ha, State.storeWord_strict v priv h ha⟩,
    fun h ha => ⟨State.loadHalf_strict priv h ha, State.storeHalf_strict v priv h ha⟩,
    fun h ha hu => ⟨fun w hw => ?_, fun e he => ?_, State.storeWord_base v priv h ha hu⟩,
    fun h ha hu => ⟨State.loadHalf_unpredictable priv h ha hu, State.storeHalf_unpredictable v priv h ha hu⟩⟩
  · rw [State.loadWord_rotated priv h ha hu, toNat_and_three]
    exact congrArg (· >>= _) hw
  · rw [State.loadWord_rotated priv h ha hu]
    exact congrArg (· >>= _) he

end Sys2Proof.Machine
end

section
/-! Proofs. What the transfers share: one access as a value with its stops, and the frames of the states they leave. -/

namespace Sys2Proof.Machine

/-! ## One access (R91, R96, R105, R106) -/

/-- How one access ends, in the order of its tests; `x` is what it gives where none of them stops it. -/
def accessResult {α : Type} (alignAborts alignOpen : Bool) (a : Word) (n : Nat) (kind : AccessKind) (priv : Bool)
    (s : State) (x : α) : Res α :=
  if alignAborts then raise .dataAbort s
  else if alignOpen then unpredictable .unalignedUnpredictable
  else if crossesTop a n then unpredictable .addressWrap
  else if s.extAbort a n kind priv then raise .dataAbort s
  else .ok x

theorem State.memRead_eq (s : State) (a : Word) (n : Nat) (priv : Bool) :
    s.memRead a n priv = accessResult false false a n .read priv s (packData s.bigEndian (s.bytesAt a n)) := rfl

theorem State.memWrite_eq (s : State) (a v : Word) (n : Nat) (priv : Bool) : s.memWrite a n v priv =
    accessResult false false a n .write priv s (s.setBytes a (unpackData s.bigEndian v n)) := rfl

theorem accessResult_bind_ok {α β : Type} (f : α → β) (al op : Bool) (a : Word) (n : Nat) (kind : AccessKind)
    (priv : Bool) (s : State) (x : α) :
    (accessResult al op a n kind priv s x >>= fun y => .ok (f y)) = accessResult al op a n kind priv s (f x) := by
  unfold accessResult
  repeat' split
  all_goals rfl

/-- A word read delivers the word in memory. -/
theorem State.packData_bytesAt_four (s : State) (a : Word) : packData s.bigEndian (s.bytesAt a 4) = s.dataWord a := by
  have hbytes : s.bytesAt a 4 = [s.byte a, s.byte (a + 1), s.byte (a + 2), s.byte (a + 3)] := by
    simp [State.bytesAt, BitVec.add_assoc]
  rw [hbytes, packData, State.dataWord]
  split <;> exact packLittle_four ..

theorem State.packData_bytesAt_two (s : State) (a : Word) :
    packData s.bigEndian (s.bytesAt a 2) = (s.dataHalf a).setWidth 32 := by
  rw [State.bytesAt, State.bytesAt, State.bytesAt, packData, State.dataHalf]
  split <;> exact packLittle_two ..

theorem State.packData_bytesAt_one (s : State) (a : Word) :
    packData s.bigEndian (s.bytesAt a 1) = (s.byte a).setWidth 32 := by
  rw [State.bytesAt, State.bytesAt, packData]
  split <;> exact packLittle_one _

theorem State.loadWord_eq (s : State) (a : Word) (priv : Bool) : s.loadWord a priv =
    accessResult (a &&& 3 != 0 && s.aBit) false (s.wordAccess a) 4 .read priv s (s.loadedWord a) := by
  by_cases h : a &&& 3 = 0
  · rw [State.loadWord_at priv (.inl h), State.wordAccess, State.loadedWord, if_pos (.inl h), if_pos (.inl h),
      State.memRead_eq, State.packData_bytesAt_four, bne_eq_false_iff_eq.mpr h, Bool.false_and]
  · cases ha : s.aBit with
    | true => rw [State.loadWord_strict priv h ha, bne_iff_ne.mpr h]; rfl
    | false =>
      rw [Bool.and_false]
      cases hu : s.uBit with
      | true =>
        rw [State.loadWord_at priv (.inr ⟨ha, hu⟩), State.wordAccess, State.loadedWord, if_pos (.inr hu),
          if_pos (.inr hu), State.memRead_eq, State.packData_bytesAt_four]
      | false =>
        rw [State.loadWord_rotated priv h ha hu, State.wordAccess, State.loadedWord, if_neg (not_or.mpr ⟨h, by simp [hu]⟩),
          if_neg (not_or.mpr ⟨h, by simp [hu]⟩), State.memRead_eq, State.packData_bytesAt_four, accessResult_bind_ok]
        rfl

theorem State.loadHalf_eq (s : State) (a : Word) (priv : Bool) : s.loadHalf a priv =
    accessResult (a &&& 1 != 0 && s.aBit) (a &&& 1 != 0 && !s.uBit) a 2 .read priv s
      ((s.dataHalf a).setWidth 32) := by
  by_cases h : a &&& 1 = 0
  · rw [State.loadHalf_at priv (.inl h), State.memRead_eq, State.packData_bytesAt_two, bne_eq_false_iff_eq.mpr h]; rfl
  · cases ha : s.aBit with
    | true => rw [State.loadHalf_strict priv h ha, bne_iff_ne.mpr h]; rfl
    | false =>
      cases hu : s.uBit with
      | true => rw [State.loadHalf_at priv (.inr ⟨ha, hu⟩), State.memRead_eq, State.packData_bytesAt_two]; simp
      | false => rw [State.loadHalf_unpredictable priv h ha hu, bne_iff_ne.mpr h]; rfl

theorem State.loadByte_eq (s : State) (a : Word) (priv : Bool) : s.loadByte a priv =
    accessResult false false a 1 .read priv s ((s.byte a).setWidth 32) := by
  rw [State.loadByte, State.memRead_eq, State.packData_bytesAt_one]

theorem State.storeWord_eq (s : State) (a v : Word) (priv : Bool) : s.storeWord a v priv =
    accessResult (a &&& 3 != 0 && s.aBit) false (s.wordAccess a) 4 .write priv s
      (s.setBytes (s.wordAccess a) (unpackData s.bigEndian v 4)) := by
  by_cases h : a &&& 3 = 0
  · rw [State.storeWord_at v priv (.inl h), State.wordAccess, if_pos (.inl h), State.memWrite_eq,
      bne_eq_false_iff_eq.mpr h, Bool.false_and]
  · cases ha : s.aBit with
    | true => rw [State.storeWord_strict v priv h ha, bne_iff_ne.mpr h]; rfl
    | false =>
      rw [Bool.and_false]
      cases hu : s.uBit with
      | true =>
        rw [State.storeWord_at v priv (.inr ⟨ha, hu⟩), State.wordAccess, if_pos (.inr hu), State.memWrite_eq]
      | false =>
        rw [State.storeWord_base v priv h ha hu, State.wordAccess, if_neg (not_or.mpr ⟨h, by simp [hu]⟩), State.memWrite_eq]; rfl

theorem State.storeHalf_eq (s : State) (a v : Word) (priv : Bool) : s.storeHalf a v priv =
    accessResult (a &&& 1 != 0 && s.aBit) (a &&& 1 != 0 && !s.uBit) a 2 .write priv s
      (s.setBytes a (unpackData s.bigEndian v 2)) := by
  by_cases h : a &&& 1 = 0
  · rw [State.storeHalf_at v priv (.inl h), State.memWrite_eq, bne_eq_false_iff_eq.mpr h]; rfl
  · cases ha : s.aBit with
    | true => rw [State.storeHalf_strict v priv h ha, bne_iff_ne.mpr h]; rfl
    | false =>
      cases hu : s.uBit with
      | true => rw [State.storeHalf_at v priv (.inr ⟨ha, hu⟩), State.memWrite_eq]; simp
      | false => rw [State.storeHalf_unpredictable v priv h ha hu, bne_iff_ne.mpr h]; rfl

theorem State.storeByte_eq (s : State) (a v : Word) (priv : Bool) : s.storeByte a v priv =
    accessResult false false a 1 .write priv s (s.setBytes a (unpackData s.bigEndian v 1)) := rfl

/-! ## What memory holds after a store (R92, R94) -/

theorem packLittle_unpackLittle (v : Word) (n : Nat) {j : Nat} (hj : j < 32) :
    (packLittle (unpackLittle v n)).getLsbD j = (decide (j < 8 * n) && v.getLsbD j) := by
  rw [packLittle_getLsbD _ hj]
  by_cases h : j / 8 < n
  · rw [getD_unpackLittle v h, BitVec.getLsbD_extractLsb', Nat.div_add_mod, decide_eq_true (by omega),
      decide_eq_true (by omega)]
  · rw [List.getD_eq_default _ _ (by rw [length_unpackLittle]; omega), decide_eq_false (by omega)]; simp

theorem packData_unpackData (big : Bool) (v : Word) (n : Nat) :
    packData big (unpackData big v n) = packLittle (unpackLittle v n) := by
  cases big <;> simp [packData, unpackData]

theorem State.setBytes_bigEndian (s : State) (a : Word) (bs : List Byte) :
    (s.setBytes a bs).bigEndian = s.bigEndian := by rw [s.setBytes_eq]; rfl

/-- What a read finds where `n` bytes of a value were stored. -/
theorem State.packData_stored (s : State) (a v : Word) {n : Nat} (hn : n ≤ 4) :
    let t := s.setBytes a (unpackData s.bigEndian v n)
    packData t.bigEndian (t.bytesAt a n) = packLittle (unpackLittle v n) := by
  intro t
  have h : t.bytesAt a _ = _ := s.bytesAt_setBytes a (unpackData s.bigEndian v n) (by rw [length_unpackData]; omega)
  rw [length_unpackData] at h
  rw [h, s.setBytes_bigEndian, packData_unpackData]

theorem State.dataWord_stored (s : State) (a v : Word) :
    (s.setBytes a (unpackData s.bigEndian v 4)).dataWord a = v := by
  rw [← State.packData_bytesAt_four, s.packData_stored a v (by decide)]
  refine BitVec.eq_of_getLsbD_eq fun j hj => ?_
  rw [packLittle_unpackLittle v 4 hj, decide_eq_true hj, Bool.true_and]

/-- The low bits of a word, zero-extended, determine them. -/
theorem setWidth_eq_packLittle {k n : Nat} (x : BitVec k) (v : Word) (hk : k = 8 * n) (hn : k ≤ 32)
    (h : x.setWidth 32 = packLittle (unpackLittle v n)) : x = v.extractLsb' 0 k := by
  refine BitVec.eq_of_getLsbD_eq fun j hj => ?_
  have hbit := congrArg (·.getLsbD j) h
  simp only [BitVec.getLsbD_setWidth, packLittle_unpackLittle v n (j := j) (by omega),
    decide_eq_true (show j < 32 by omega), decide_eq_true (show j < 8 * n by omega), Bool.true_and] at hbit
  rw [hbit, BitVec.getLsbD_extractLsb', decide_eq_true hj, Bool.true_and, Nat.zero_add]

theorem State.dataHalf_stored (s : State) (a v : Word) :
    (s.setBytes a (unpackData s.bigEndian v 2)).dataHalf a = v.extractLsb' 0 16 := by
  refine setWidth_eq_packLittle (n := 2) _ v rfl (by decide) ?_
  rw [← State.packData_bytesAt_two, s.packData_stored a v (by decide)]

theorem State.byte_stored (s : State) (a v : Word) :
    (s.setBytes a (unpackData s.bigEndian v 1)).byte a = v.extractLsb' 0 8 := by
  refine setWidth_eq_packLittle (n := 1) _ v rfl (by decide) ?_
  rw [← State.packData_bytesAt_one, s.packData_stored a v (by decide)]

/-! ## States that agree on what a read looks at -/

theorem State.mode?_congr {s t : State} (h : t.cpsr = s.cpsr) : t.mode? = s.mode? := by rw [State.mode?, h]; rfl

theorem State.byte_congr {s t : State} (h : t.mem = s.mem) (a : Word) : t.byte a = s.byte a := by
  rw [State.byte, h]; rfl

theorem State.dataWord_congr {s t : State} (hm : t.mem = s.mem) (hc : t.cpsr = s.cpsr) (a : Word) :
    t.dataWord a = s.dataWord a := by
  simp only [State.dataWord, State.bigEndian, hc, State.byte_congr hm]; rfl

theorem State.dataHalf_congr {s t : State} (hm : t.mem = s.mem) (hc : t.cpsr = s.cpsr) (a : Word) :
    t.dataHalf a = s.dataHalf a := by
  simp only [State.dataHalf, State.bigEndian, hc, State.byte_congr hm]; rfl

theorem State.regIn_congr {s t : State} (h : t.regs = s.regs) (m : Option Mode) {i : RegNum} (hi : i ≠ 15) :
    t.regIn m i = s.regIn m i := by
  cases hb : bank m i with
  | none => exact absurd ((bank_eq_none m i).mp hb) hi
  | some k => simp only [State.regIn, hb, h]

/-! ## The frames, one update at a time -/

theorem SameSystem.refl (s : State) : SameSystem s s := by constructor <;> rfl

theorem SameSystem.setRegIn {s t : State} (h : SameSystem s t) (m : Option Mode) (i : RegNum) (v : Word) :
    SameSystem s (t.setRegIn m i v) := by
  unfold State.setRegIn
  split
  · exact { h with }
  · exact h

theorem SameSystem.setRegs {s t : State} (h : SameSystem s t) (m : Option Mode) (rs : List RegNum) (vs : List Word) :
    SameSystem s (t.setRegs m rs vs) := by
  rw [t.setRegs_only_regs]; exact { h with }

theorem SameSystem.setPc {s t : State} (h : SameSystem s t) (a : Word) : SameSystem s (t.setPc a) := { h with }

theorem SameSystem.setCpsr {s t : State} (h : SameSystem s t) (w : Word) : SameSystem s (t.setCpsr w) := { h with }

theorem SameSystem.setBytes {s t : State} (h : SameSystem s t) (a : Word) (bs : List Byte) :
    SameSystem s (t.setBytes a bs) := by
  rw [t.setBytes_eq]; exact { h with }

/-- Both monitors opened (R113). -/
theorem SameSystem.openMonitor {s t : State} (h : SameSystem s t) : SameSystem s.openMonitor t.openMonitor :=
  { h with openOutstanding := rfl, openAddr := rfl }

theorem SameRegs.refl (s : State) (dests : List RegNum) : SameRegs s s dests := fun _ _ => rfl

theorem SameRegs.setRegIn {s t : State} {dests : List RegNum} (h : SameRegs s t dests) {r : RegNum} (v : Word)
    (hr : r ∈ dests) : SameRegs s (t.setRegIn s.mode? r v) dests := fun k hk =>
  (t.setRegIn_regs_ne s.mode? r v k (hk r hr)).trans (h k hk)

theorem SameRegs.setRegs {s t : State} {dests : List RegNum} (h : SameRegs s t dests) {rs : List RegNum}
    (vs : List Word) (hr : ∀ r ∈ rs, r ∈ dests) : SameRegs s (t.setRegs s.mode? rs vs) dests := fun k hk =>
  (t.setRegs_regs_ne s.mode? rs vs k fun r hm => hk r (hr r hm)).trans (h k hk)

theorem SameRegs.of_regs_eq {s t u : State} {dests : List RegNum} (h : SameRegs s t dests) (e : u.regs = t.regs) :
    SameRegs s u dests := fun k hk => by rw [e]; exact h k hk

theorem State.setBytes_regs (s : State) (a : Word) (bs : List Byte) : (s.setBytes a bs).regs = s.regs := by
  rw [s.setBytes_eq]

@[simp] theorem State.setBytes_pc (s : State) (a : Word) (bs : List Byte) : (s.setBytes a bs).pc = s.pc := by
  rw [s.setBytes_eq]

@[simp] theorem State.setBytes_cpsr (s : State) (a : Word) (bs : List Byte) : (s.setBytes a bs).cpsr = s.cpsr := by
  rw [s.setBytes_eq]

theorem SameMemory.of_mem_eq {s t : State} (h : t.mem = s.mem) : SameMemory s t := State.byte_congr h

theorem SameMemoryBut.of_mem_eq {s t u : State} {a : Word} {n : Nat} (h : SameMemoryBut s t a n) (e : u.mem = t.mem) :
    SameMemoryBut s u a n := fun b hb => (State.byte_congr e b).trans (h b hb)

/-! ## The base written back (R321, R323) -/

/-- The base register with its new address, where there is one. -/
def State.setBase (s : State) (rn : RegNum) : Option Word → State
  | none => s
  | some v => s.setReg rn v

section
variable (s : State) (rn : RegNum) (wb : Option Word)

@[simp] theorem State.setBase_pc : (s.setBase rn wb).pc = s.pc := by cases wb <;> simp [State.setBase]
@[simp] theorem State.setBase_cpsr : (s.setBase rn wb).cpsr = s.cpsr := by cases wb <;> simp [State.setBase]
@[simp] theorem State.setBase_mem : (s.setBase rn wb).mem = s.mem := by cases wb <;> simp [State.setBase]

@[simp] theorem State.setBase_mode? : (s.setBase rn wb).mode? = s.mode? := State.mode?_congr (s.setBase_cpsr rn wb)

variable {s rn wb}

theorem SameSystem.setBase {t : State} (h : SameSystem s t) : SameSystem s (t.setBase rn wb) := by
  cases wb with
  | none => exact h
  | some v => exact h.setRegIn ..

theorem SameRegs.setBase {t : State} {dests : List RegNum} (h : SameRegs s t dests) (hm : t.mode? = s.mode?)
    (hr : ∀ r ∈ baseDest rn wb, r ∈ dests) : SameRegs s (t.setBase rn wb) dests := by
  cases wb with
  | none => exact h
  | some v => rw [State.setBase, State.setReg_eq, hm]; exact h.setRegIn v (hr rn (by simp [baseDest]))

theorem State.baseIs_setBase (h : wb.isSome = true → rn ≠ 15) : BaseIs (s.setBase rn wb) rn wb := by
  rintro v rfl
  rw [State.reg, State.setBase_mode?]
  exact s.regIn_setRegIn_self s.mode? rn v (h rfl)

/-- The base holds its new address in every state with the same registers and mode. -/
theorem BaseIs.congr {t u : State} (h : BaseIs t rn wb) (hregs : u.regs = t.regs) (hc : u.cpsr = t.cpsr)
    (hrn : wb.isSome = true → rn ≠ 15) : BaseIs u rn wb := by
  rintro v rfl
  rw [State.reg, State.mode?_congr hc, State.regIn_congr hregs _ (hrn rfl)]
  exact h v rfl

/-- A later write to another register leaves the base. -/
theorem BaseIs.setRegIn {t : State} (h : BaseIs t rn wb) (rd : RegNum) (v : Word)
    (hne : wb.isSome = true → rd ≠ rn) : BaseIs (t.setRegIn t.mode? rd v) rn wb := by
  rintro a rfl
  rw [State.reg, State.mode?_congr (t.setRegIn_cpsr ..), t.regIn_setRegIn_ne _ _ _ v (hne rfl)]
  exact h a rfl

end

section
variable (idx : Indexing) (u : Bool) (base off : Word)

theorem indexedAddress_addr : (indexedAddress idx u base off).addr = (transferAddress idx u base off).1 := by
  cases idx <;> rfl

theorem writesBack_eq : writesBack idx = (transferAddress idx u base off).2.isSome := by cases idx <;> rfl

theorem State.writeBase_indexedAddress (s : State) (rn : RegNum) :
    s.writeBase rn (indexedAddress idx u base off) = s.setBase rn (transferAddress idx u base off).2 := by
  cases idx <;> rfl

end

/-! ## The state after a store -/

/-- The state after a store of bytes: the monitor open, the base written back, the pc at the next instruction. -/
def State.afterStore (s : State) (a : Word) (bs : List Byte) (rn : RegNum) (wb : Option Word) (next : Word) : State :=
  ((s.setBytes a bs).openMonitor.setBase rn wb).setPc next

section
variable (s : State) (a : Word) (bs : List Byte) (rn : RegNum) (wb : Option Word) (next : Word)

theorem State.afterStore_mem : (s.afterStore a bs rn wb next).mem = (s.setBytes a bs).mem :=
  State.setBase_mem ..

theorem State.afterStore_cpsr : (s.afterStore a bs rn wb next).cpsr = s.cpsr :=
  (State.setBase_cpsr ..).trans (s.setBytes_cpsr a bs)

theorem State.afterStore_byte (b : Word) : (s.afterStore a bs rn wb next).byte b = (s.setBytes a bs).byte b :=
  State.byte_congr (s.afterStore_mem ..) b

theorem State.afterStore_dataHalf (b : Word) :
    (s.afterStore a bs rn wb next).dataHalf b = (s.setBytes a bs).dataHalf b :=
  State.dataHalf_congr (s.afterStore_mem ..) ((s.afterStore_cpsr ..).trans (s.setBytes_cpsr a bs).symm) b

theorem State.afterStore_dataWord (b : Word) :
    (s.afterStore a bs rn wb next).dataWord b = (s.setBytes a bs).dataWord b :=
  State.dataWord_congr (s.afterStore_mem ..) ((s.afterStore_cpsr ..).trans (s.setBytes_cpsr a bs).symm) b

/-- A store of bytes changes those bytes, the base, the pc, and opens the monitor. -/
theorem State.afterStore_frame :
    StoreFrame s.openMonitor (s.afterStore a bs rn wb next) next (baseDest rn wb) a bs.length where
  pc := rfl
  regs := by
    have hregs : SameRegs s.openMonitor (s.setBytes a bs).openMonitor (baseDest rn wb) :=
      (SameRegs.refl _ _).of_regs_eq (s.setBytes_regs a bs)
    exact hregs.setBase (State.mode?_congr (s.setBytes_cpsr a bs)) fun _ h => h
  status := s.afterStore_cpsr ..
  system := (((SameSystem.refl s).setBytes a bs).openMonitor.setBase).setPc next
  memory := (s.sameMemoryBut_setBytes a bs).of_mem_eq (s.afterStore_mem ..)

/-- The same of the low `n` bytes of a value. -/
theorem State.afterStore_value_frame (big : Bool) (v : Word) (n : Nat) :
    StoreFrame s.openMonitor (s.afterStore a (unpackData big v n) rn wb next) next (baseDest rn wb) a n := by
  have h := s.afterStore_frame a (unpackData big v n) rn wb next
  rwa [length_unpackData] at h

theorem State.afterStore_baseIs {wb : Option Word} (h : wb.isSome = true → rn ≠ 15) :
    BaseIs (s.afterStore a bs rn wb next) rn wb :=
  (State.baseIs_setBase h).congr (t := (s.setBytes a bs).openMonitor.setBase rn wb) rfl rfl h

end

end Sys2Proof.Machine
end

section
/-! Proofs. The single transfers: O44, O45, O46, O58. -/

namespace Sys2Proof.Machine

/-! ## The restrictions on registers (R322) -/

theorem checkTransfer_of_stops {wb : Bool} {rn rd : RegNum} {rm : Option RegNum} {p : Bool}
    (h : transferStops wb rn rd rm p = true) : ∃ f ∈ transferFaults, checkTransfer wb rn rd rm p = unpredictable f := by
  unfold transferStops at h
  unfold checkTransfer
  generalize (wb && rn == rd) = b1, (wb && rn == 15) = b2, (rm == some 15) = b3, (rd == 15 && !p) = b4,
    (wb && rm == some rn) = b5 at h ⊢
  cases b1 with
  | true => exact ⟨.writebackOverlap, by decide, rfl⟩
  | false => cases b2 with
    | true => exact ⟨.writebackPc, by decide, rfl⟩
    | false => cases b3 with
      | true => exact ⟨.offsetPc, by decide, rfl⟩
      | false => cases b4 with
        | true => exact ⟨.transferPc, by decide, rfl⟩
        | false => cases b5 with
          | true => exact ⟨.offsetWritebackOverlap, by decide, rfl⟩
          | false => cases h

theorem checkTransfer_of_not_stops {wb : Bool} {rn rd : RegNum} {rm : Option RegNum} {p : Bool}
    (h : transferStops wb rn rd rm p = false) : checkTransfer wb rn rd rm p = .ok () := by
  simp only [transferStops, Bool.or_eq_false_iff] at h
  obtain ⟨⟨⟨⟨h1, h2⟩, h3⟩, h4⟩, h5⟩ := h
  rw [checkTransfer, h1, h2, h3, h4, h5]; rfl

/-- What the restrictions leave of the registers that a transfer writes. -/
theorem registers_of_not_stops {wb : Bool} {rn rd : RegNum} {rm : Option RegNum} {p : Bool}
    (h : transferStops wb rn rd rm p = false) :
    (wb = true → rn ≠ rd) ∧ (wb = true → rn ≠ 15) ∧ (p = false → rd ≠ 15) := by
  simp only [transferStops, Bool.or_eq_false_iff, Bool.and_eq_false_imp, beq_eq_false_iff_ne] at h
  obtain ⟨⟨⟨⟨h1, h2⟩, -⟩, h4⟩, -⟩ := h
  refine ⟨h1, h2, fun hp hd => ?_⟩
  have := h4 (beq_iff_eq.mpr hd)
  simp [hp] at this

/-! ## From an instruction to its access (R26, R323) -/

/-- An ARM instruction whose condition passes is its effect. -/
theorem exec_of_passed {i : Instr} {c : Cond} {s : State} {body : Res State} (hc : s.passed c = true)
    (h : exec i s = finish (s.conditional c body)) : exec i s = finish body := by
  rw [h, State.conditional_passed hc]

/-- An instruction that checks its registers, makes one access and goes on with what it gives ends as the access does. -/
theorem accessYields_of_exec {α : Type} {bad al op : Bool} {a : Word} {n : Nat} {kind : AccessKind} {priv : Bool}
    {i : Instr} {s : State} {ok : Prop} {check : Res Unit} {access : Res α} {k : α → Res State} {x : α}
    (hexec : exec i s = finish (check >>= fun _ => access >>= k))
    (hstop : bad = true → ∃ f ∈ transferFaults, check = unpredictable f) (hgo : bad = false → check = .ok ())
    (haccess : access = accessResult al op a n kind priv s x)
    (hok : bad = false → exec i s = finish (k x) → ok) : AccessYields bad al op a n kind priv i s ok := by
  unfold AccessYields
  cases hb : bad with
  | true =>
    obtain ⟨f, hf, hcheck⟩ := hstop hb
    rw [if_pos rfl]
    exact ⟨f, hf, by rw [hexec, hcheck]; rfl⟩
  | false =>
    have hexec : exec i s = finish (accessResult al op a n kind priv s x >>= k) := by
      rw [hexec, hgo hb, haccess]; rfl
    rw [if_neg Bool.false_ne_true]
    rw [accessResult] at hexec
    cases al with
    | true => exact hexec
    | false => cases op with
      | true => exact hexec
      | false =>
        simp only [Bool.false_eq_true, if_false] at hexec ⊢
        split
        next hw => rw [hexec, if_pos hw]; rfl
        next hw =>
          rw [if_neg hw] at hexec
          split
          next ha => rw [hexec, if_pos ha]; rfl
          next ha => rw [if_neg ha] at hexec; exact hok hb hexec

section
variable {bad al op : Bool} {a : Word} {n : Nat} {kind : AccessKind} {priv : Bool} {i : Instr} {s : State} {ok : Prop}

/-- With the restrictions of R322. -/
theorem accessYields_of_transfer {α : Type} {wb p : Bool} {rn rd : RegNum} {rm : Option RegNum} {access : Res α}
    {k : α → Res State} {x : α}
    (hexec : exec i s = finish (checkTransfer wb rn rd rm p >>= fun _ => access >>= k))
    (haccess : access = accessResult al op a n kind priv s x)
    (hok : transferStops wb rn rd rm p = false → exec i s = finish (k x) → ok) :
    AccessYields (transferStops wb rn rd rm p) al op a n kind priv i s ok :=
  accessYields_of_exec hexec checkTransfer_of_stops checkTransfer_of_not_stops haccess hok

/-- In Thumb no register is excluded. -/
theorem accessYields_of_thumb {α : Type} {access : Res α} {k : α → Res State} {x : α}
    (hexec : exec i s = finish (access >>= k)) (haccess : access = accessResult al op a n kind priv s x)
    (hok : exec i s = finish (k x) → ok) : AccessYields false al op a n kind priv i s ok :=
  accessYields_of_exec (check := .ok ()) hexec (fun h => nomatch h) (fun _ => rfl) haccess fun _ => hok

end

/-! ## Stores (R340 to R345) -/

/-- The end of a store of bytes. -/
theorem State.endStore_setBytes {s : State} (a : Word) (bs : List Byte) (rn : RegNum) (idx : Indexing) (u : Bool)
    (base off : Word) (hpc : s.pc.toNat + 4 < 2 ^ 32) :
    (s.setBytes a bs).endStore rn (indexedAddress idx u base off) =
      .ok (s.afterStore a bs rn (transferAddress idx u base off).2 (s.pc + 4)) := by
  rw [State.endStore, State.writeBase_indexedAddress, State.advance_eq (by simpa using hpc)]
  simp [State.afterStore]

/-- As for a store of Thumb, which writes no base. -/
theorem State.advance_setBytes {s : State} (a : Word) (bs : List Byte) (rn : RegNum) (hpc : s.pc.toNat + 2 < 2 ^ 32) :
    (s.setBytes a bs).openMonitor.advance 2 = .ok (s.afterStore a bs rn none (s.pc + 2)) := by
  rw [State.advance_eq (by simpa using hpc)]
  simp [State.afterStore, State.setBase]

theorem State.storedWord_afterStore (s : State) (a v : Word) {rn : RegNum} {wb : Option Word}
    (hrn : wb.isSome = true → rn ≠ 15) :
    StoredWord s rn wb a v (s.afterStore a (unpackData s.bigEndian v 4) rn wb (s.pc + 4)) := by
  refine ⟨?_, s.afterStore_baseIs a _ rn _ hrn, s.afterStore_value_frame ..⟩
  rw [State.afterStore_dataWord, s.dataWord_stored]

theorem State.storeValue_eq (s : State) (rd : RegNum) : s.storeValue rd = s.stored rd := rfl

/-- What a store of one byte leaves. -/
theorem State.storedByte_afterStore (s : State) (a v : Word) {rn : RegNum} {wb : Option Word}
    (hrn : wb.isSome = true → rn ≠ 15) :
    let t := s.afterStore a (unpackData s.bigEndian v 1) rn wb (s.pc + 4)
    t.byte a = v.extractLsb' 0 8 ∧ BaseIs t rn wb ∧ StoreFrame s.openMonitor t (s.pc + 4) (baseDest rn wb) a 1 := by
  refine ⟨?_, s.afterStore_baseIs a _ rn _ hrn, s.afterStore_value_frame ..⟩
  rw [State.afterStore_byte, s.byte_stored]

section
variable {i : Instr} {s : State} {idx : Indexing} {u p al op : Bool} {rn rd : RegNum} {rm : Option RegNum}
  {base off a : Word} {n : Nat} {priv : Bool}

/-- A store that checks its registers, writes bytes and ends with the base ends as its access does. -/
theorem storeYields_of_exec {bs : List Byte} {post : State → Prop} (store : Word → Res State)
    (hexec : exec i s = finish (checkTransfer (writesBack idx) rn rd rm p >>= fun _ =>
      store (indexedAddress idx u base off).addr >>= fun t => t.endStore rn (indexedAddress idx u base off)))
    (hpc : s.pc.toNat + 4 < 2 ^ 32)
    (hstore : store (transferAddress idx u base off).1 = accessResult al op a n .write priv s (s.setBytes a bs))
    (hpost : ((transferAddress idx u base off).2.isSome = true → rn ≠ 15) →
      post (s.afterStore a bs rn (transferAddress idx u base off).2 (s.pc + 4))) :
    AccessYields (transferStops (transferAddress idx u base off).2.isSome rn rd rm p) al op a n .write priv i s
      (Yields i s post) := by
  rw [indexedAddress_addr, writesBack_eq idx u base off] at hexec
  refine accessYields_of_transfer hexec hstore fun hb he => ?_
  obtain ⟨-, hrn, -⟩ := registers_of_not_stops hb
  rw [State.endStore_setBytes a bs rn idx u base off hpc] at he
  exact ⟨_, he, hpost hrn⟩

end

/-- Settles O44: each store is its checks, one write and the base. -/
theorem wordAndByteStoresYield : Obligations.WordAndByteStoresYield := by
  intro c idx u rn rd off s ⟨hc, hpc⟩ x y bad badT byte
  refine ⟨?str, ?strb, ?strt, ?strbt⟩
  case str =>
    exact storeYields_of_exec (fun a => s.storeWord a (s.storeValue rd) s.privileged) (exec_of_passed hc rfl) hpc
      (s.storeWord_eq ..) fun hrn => s.storedWord_afterStore _ _ hrn
  case strb =>
    exact storeYields_of_exec (fun a => s.storeByte a (s.reg rd) s.privileged) (exec_of_passed hc rfl) hpc
      (s.storeByte_eq ..) fun hrn => s.storedByte_afterStore _ _ hrn
  case strt =>
    exact storeYields_of_exec (idx := .post) (fun a => s.storeWord a (s.reg rd) false) (exec_of_passed hc rfl) hpc
      (s.storeWord_eq ..) fun hrn => s.storedWord_afterStore _ _ hrn
  case strbt =>
    exact storeYields_of_exec (idx := .post) (fun a => s.storeByte a (s.reg rd) false) (exec_of_passed hc rfl) hpc
      (s.storeByte_eq ..) fun hrn => s.storedByte_afterStore _ _ hrn

/-! ## Thumb stores (R590) -/

theorem shiftLeft_eq_mul (x : Word) (k : Nat) : x <<< k = BitVec.twoPow 32 k * x := by
  rw [BitVec.shiftLeft_eq_mul_twoPow, BitVec.mul_comm]

theorem State.tImmAddress_eq (s : State) (ln : LowReg) (imm : BitVec 5) (k : Nat) :
    s.tImmAddress ln imm k = s.lreg ln + BitVec.twoPow 32 k * imm.setWidth 32 := by
  rw [State.tImmAddress, shiftLeft_eq_mul]

theorem State.spRelative_eq (s : State) (imm : BitVec 8) : s.spRelative imm = s.reg 13 + 4 * imm.setWidth 32 := by
  rw [State.spRelative, shiftLeft_eq_mul]; rfl

section
variable {i : Instr} {s : State} {ld : LowReg} {a : Word} (hpc : s.pc.toNat + 2 < 2 ^ 32)
include hpc

/-- A Thumb store that writes bytes ends as its access does. -/
theorem thumbStoreYields_of_exec {al op : Bool} {b : Word} {n : Nat} {priv : Bool} {bs : List Byte}
    {post : State → Prop} {store : Res State}
    (hexec : exec i s = finish (store >>= fun t => t.openMonitor.advance 2))
    (hstore : store = accessResult al op b n .write priv s (s.setBytes b bs))
    (hpost : post (s.afterStore b bs 0 none (s.pc + 2))) :
    AccessYields false al op b n .write priv i s (Yields i s post) := by
  refine accessYields_of_thumb hexec hstore fun he => ⟨_, ?_, hpost⟩
  rw [he, State.advance_setBytes b bs 0 hpc, finish_ok]

theorem thumbStoreWord_yields (hexec : exec i s = finish (s.tStoreWord ld a)) :
    WordYields false a .write s.privileged i s (Yields i s fun t => t.dataWord (s.wordAccess a) = s.lreg ld ∧
      StoreFrame s.openMonitor t (s.pc + 2) [] (s.wordAccess a) 4) := by
  refine thumbStoreYields_of_exec hpc hexec (s.storeWord_eq ..) ⟨?_, s.afterStore_value_frame ..⟩
  rw [State.afterStore_dataWord, s.dataWord_stored]

theorem thumbStoreHalf_yields (hexec : exec i s = finish (s.tStoreHalf ld a)) :
    HalfYields false a .write s.privileged i s (Yields i s fun t => t.dataHalf a = (s.lreg ld).extractLsb' 0 16 ∧
      StoreFrame s.openMonitor t (s.pc + 2) [] a 2) := by
  refine thumbStoreYields_of_exec hpc hexec (s.storeHalf_eq ..) ⟨?_, s.afterStore_value_frame ..⟩
  rw [State.afterStore_dataHalf, s.dataHalf_stored]

theorem thumbStoreByte_yields (hexec : exec i s = finish (s.tStoreByte ld a)) :
    ByteYields false a .write s.privileged i s (Yields i s fun t => t.byte a = (s.lreg ld).extractLsb' 0 8 ∧
      StoreFrame s.openMonitor t (s.pc + 2) [] a 1) := by
  refine thumbStoreYields_of_exec hpc hexec (s.storeByte_eq ..) ⟨?_, s.afterStore_value_frame ..⟩
  rw [State.afterStore_byte, s.byte_stored]

end

/-- Settles O58: the three widths of store, at the address of each form. -/
theorem thumbStoresYield : Obligations.ThumbStoresYield := by
  intro imm5 imm8 lm ln ld s ⟨_, hpc⟩ sum off spRel v word half byte
  have hsp : s.spRelative imm8 = spRel := s.spRelative_eq imm8
  have hoff : ∀ k, s.tImmAddress ln imm5 k = off (BitVec.twoPow 32 k) := s.tImmAddress_eq ln imm5
  refine ⟨?strSp, ?strImm, ?strReg, ?strhImm, ?strhReg, ?strbImm, ?strbReg⟩
  case strSp => exact thumbStoreWord_yields hpc (hsp ▸ rfl)
  case strImm => exact thumbStoreWord_yields hpc (hoff 2 ▸ rfl)
  case strReg => exact thumbStoreWord_yields hpc rfl
  case strhImm => exact thumbStoreHalf_yields hpc (hoff 1 ▸ rfl)
  case strhReg => exact thumbStoreHalf_yields hpc rfl
  case strbImm => exact thumbStoreByte_yields hpc (hoff 0 ▸ rfl)
  case strbReg => exact thumbStoreByte_yields hpc rfl

/-! ## Loads (R323, R329 to R332) -/

/-- The state after a load: the base written back, the value in Rd, the pc at the next instruction. -/
def State.afterLoad (s : State) (rn rd : RegNum) (wb : Option Word) (v next : Word) : State :=
  ((s.setBase rn wb).setReg rd v).setPc next

theorem State.endLoad_eq {s : State} (rn rd : RegNum) (idx : Indexing) (u : Bool) (base off v : Word)
    (hpc : s.pc.toNat + 4 < 2 ^ 32) : s.endLoad rn rd (indexedAddress idx u base off) v =
      .ok (s.afterLoad rn rd (transferAddress idx u base off).2 v (s.pc + 4)) := by
  rw [State.endLoad, State.writeBase_indexedAddress, State.advance_eq (by simpa using hpc)]
  simp [State.afterLoad]

theorem SameStatus.of_cpsr_eq {s t : State} (h : t.cpsr = s.cpsr) (mask : Word) : SameStatus s t mask := by
  rw [SameStatus, h]

section
variable (s : State) (rn rd : RegNum) (wb : Option Word) (v next : Word)

theorem State.afterLoad_cpsr : (s.afterLoad rn rd wb v next).cpsr = s.cpsr := by simp [State.afterLoad]

theorem State.afterLoad_frame : Frame s (s.afterLoad rn rd wb v next) next (rd :: baseDest rn wb) 0 where
  pc := rfl
  regs := by
    have hbase : SameRegs s (s.setBase rn wb) (rd :: baseDest rn wb) :=
      (SameRegs.refl s _).setBase rfl fun _ h => List.mem_cons_of_mem _ h
    rw [State.afterLoad, State.setReg_eq, State.setBase_mode?]
    exact hbase.setRegIn v List.mem_cons_self
  status := .of_cpsr_eq (s.afterLoad_cpsr ..) 0
  system := (((SameSystem.refl s).setBase).setRegIn ..).setPc next
  memory := .of_mem_eq (by simp [State.afterLoad])

variable {rn rd wb}

theorem State.afterLoad_reg (hrd : rd ≠ 15) : (s.afterLoad rn rd wb v next).reg rd = v := by
  rw [State.reg, State.mode?_congr (s.afterLoad_cpsr ..), State.afterLoad, State.setPc_regIn _ _ _ _ hrd,
    State.setReg_eq, State.setBase_mode?, State.regIn_setRegIn_self _ _ _ _ hrd]

theorem State.afterLoad_baseIs (hrn : wb.isSome = true → rn ≠ 15) (hne : wb.isSome = true → rn ≠ rd) :
    BaseIs (s.afterLoad rn rd wb v next) rn wb :=
  ((State.baseIs_setBase hrn).setRegIn rd v fun h => (hne h).symm).congr rfl rfl hrn

end

section
variable {i : Instr} {s : State} {idx : Indexing} {u al op : Bool} {rn rd : RegNum} {rm : Option RegNum}
  {base off a : Word} {n : Nat} {priv : Bool}

/-- A load that checks its registers, reads and ends with the base and Rd ends as its access does. -/
theorem loadYields_of_exec {x : Word} (load : Word → Res Word) (ext : Word → Word)
    (hexec : exec i s = finish (checkTransfer (writesBack idx) rn rd rm false >>= fun _ =>
      load (indexedAddress idx u base off).addr >>= fun v => s.endLoad rn rd (indexedAddress idx u base off) (ext v)))
    (hpc : s.pc.toNat + 4 < 2 ^ 32)
    (hload : load (transferAddress idx u base off).1 = accessResult al op a n .read priv s x) :
    AccessYields (transferStops (transferAddress idx u base off).2.isSome rn rd rm false) al op a n .read priv i s
      (Yields i s (Loaded s rn rd (transferAddress idx u base off).2 (ext x))) := by
  rw [indexedAddress_addr, writesBack_eq idx u base off] at hexec
  refine accessYields_of_transfer hexec hload fun hb he => ?_
  obtain ⟨hne, hrn, hrd⟩ := registers_of_not_stops hb
  rw [s.endLoad_eq rn rd idx u base off (ext x) hpc] at he
  exact ⟨_, he, s.afterLoad_reg _ _ (hrd rfl), s.afterLoad_baseIs _ _ hrn hne, s.afterLoad_frame ..⟩

end

theorem signByte_setWidth (b : Byte) : signByte (b.setWidth 32) = b.signExtend 32 := by
  rw [signByte, ← BitVec.setWidth_eq_extractLsb' (by decide), BitVec.setWidth_setWidth_of_le _ (by decide),
    BitVec.setWidth_eq]

theorem signHalf_setWidth (h : Half) : signHalf (h.setWidth 32) = h.signExtend 32 := by
  rw [signHalf, ← BitVec.setWidth_eq_extractLsb' (by decide), BitVec.setWidth_setWidth_of_le _ (by decide),
    BitVec.setWidth_eq]

/-- Settles O45: each load is its checks, one read, its extension and the base; the store as those of O44. -/
theorem halfwordTransfersYield : Obligations.HalfwordTransfersYield := by
  intro c idx u rn rd off s ⟨hc, hpc⟩ x bad
  refine ⟨?ldrh, ?ldrsb, ?ldrsh, ?strh⟩
  case ldrh =>
    exact loadYields_of_exec (fun a => s.loadHalf a s.privileged) id (exec_of_passed hc rfl) hpc (s.loadHalf_eq ..)
  case ldrsb =>
    rw [← signByte_setWidth]
    exact loadYields_of_exec (fun a => s.loadByte a s.privileged) signByte (exec_of_passed hc rfl) hpc
      (s.loadByte_eq ..)
  case ldrsh =>
    rw [← signHalf_setWidth]
    exact loadYields_of_exec (fun a => s.loadHalf a s.privileged) signHalf (exec_of_passed hc rfl) hpc
      (s.loadHalf_eq ..)
  case strh =>
    refine storeYields_of_exec (fun a => s.storeHalf a (s.reg rd) s.privileged) (exec_of_passed hc rfl) hpc
      (s.storeHalf_eq ..) fun hrn => ⟨?_, s.afterStore_baseIs _ _ rn _ hrn, s.afterStore_value_frame ..⟩
    rw [State.afterStore_dataHalf, s.dataHalf_stored]

end Sys2Proof.Machine
end

section
/-! Proofs. Words in a row, and the doublewords: O46. -/

namespace Sys2Proof.Machine

/-! ## The bytes of words in a row (R92, R94) -/

/-- The bytes of words, the first word at the lowest address. -/
def wordBytes (big : Bool) (vs : List Word) : List Byte := vs.flatMap fun v => unpackData big v 4

theorem wordBytes_cons (big : Bool) (v : Word) (vs : List Word) :
    wordBytes big (v :: vs) = unpackData big v 4 ++ wordBytes big vs := rfl

theorem length_wordBytes (big : Bool) (vs : List Word) : (wordBytes big vs).length = 4 * vs.length := by
  induction vs with
  | nil => rfl
  | cons v vs ih => rw [wordBytes_cons, List.length_append, ih, length_unpackData, List.length_cons]; omega

theorem getD_wordBytes (big : Bool) (vs : List Word) {j i : Nat} (hj : j < vs.length) (hi : i < 4) :
    (wordBytes big vs).getD (4 * j + i) 0 = (unpackData big vs[j] 4).getD i 0 := by
  induction vs generalizing j with
  | nil => cases hj
  | cons v vs ih =>
    rw [wordBytes_cons]
    cases j with
    | zero => rw [List.getD_append _ _ _ _ (by rw [length_unpackData]; omega)]; simp
    | succ j =>
      rw [List.getD_append_right _ _ _ _ (by rw [length_unpackData]; omega), length_unpackData,
        show 4 * (j + 1) + i - 4 = 4 * j + i by omega, ih (Nat.lt_of_succ_lt_succ hj), List.getElem_cons_succ]

theorem add_ofNat_add_ofNat (a : Word) (j k : Nat) :
    a + BitVec.ofNat 32 j + BitVec.ofNat 32 k = a + BitVec.ofNat 32 (j + k) := by
  rw [BitVec.add_assoc, BitVec.ofNat_add]

theorem State.setBytes_append (s : State) (a : Word) (bs cs : List Byte) :
    s.setBytes a (bs ++ cs) = (s.setBytes a bs).setBytes (a + BitVec.ofNat 32 bs.length) cs := by
  induction bs generalizing s a with
  | nil => simp [State.setBytes]
  | cons b bs ih => rw [List.cons_append, State.setBytes, ih, add_one_add_ofNat]; rfl

/-- A word is read where its bytes stand. -/
theorem State.dataWord_of_bytes {s : State} {a v : Word}
    (h : ∀ i < 4, s.byte (a + BitVec.ofNat 32 i) = (unpackData s.bigEndian v 4).getD i 0) : s.dataWord a = v := by
  have hbytes : s.bytesAt a 4 = unpackData s.bigEndian v 4 := by
    refine List.ext_getElem (by simp) fun i hi _ => ?_
    have hi : i < 4 := by simpa using hi
    have hb := (s.getD_bytesAt a hi).trans (h i hi)
    rwa [List.getD_eq_getElem _ _ (by simpa using hi), List.getD_eq_getElem _ _ (by simpa using hi)] at hb
  rw [← State.packData_bytesAt_four, hbytes, packData_unpackData]
  refine BitVec.eq_of_getLsbD_eq fun j hj => ?_
  rw [packLittle_unpackLittle v 4 hj, decide_eq_true hj, Bool.true_and]

/-- The words stored in a row are the words read back. -/
theorem State.dataWord_storedWords (s : State) (a : Word) (vs : List Word) (hn : 4 * vs.length ≤ 2 ^ 32) {j : Nat}
    (hj : j < vs.length) :
    (s.setBytes a (wordBytes s.bigEndian vs)).dataWord (a + BitVec.ofNat 32 (4 * j)) = vs[j] := by
  refine State.dataWord_of_bytes fun i hi => ?_
  rw [add_ofNat_add_ofNat, s.byte_setBytes a _ (by rwa [length_wordBytes]) (by rw [length_wordBytes]; omega),
    getD_wordBytes _ _ hj hi, State.setBytes_bigEndian]

/-- A word stored after others in a row. -/
theorem State.setBytes_wordBytes_cons (s : State) (a v : Word) (vs : List Word) :
    (s.setBytes a (unpackData s.bigEndian v 4)).setBytes (a + 4) (wordBytes s.bigEndian vs) =
      s.setBytes a (wordBytes s.bigEndian (v :: vs)) := by
  rw [wordBytes_cons, State.setBytes_append, length_unpackData]; rfl

/-! ## The address of a word (R108) -/

theorem wordBase_eq_shift (a : Word) : wordBase a = a >>> 2 <<< 2 := by
  have hmask : (0xFFFFFFFC : Word) = BitVec.allOnes 32 <<< 2 := by decide
  rw [wordBase, hmask]
  refine BitVec.eq_of_getLsbD_eq fun i hi => ?_
  simp only [BitVec.getLsbD_and, BitVec.getLsbD_shiftLeft, BitVec.getLsbD_ushiftRight, BitVec.getLsbD_allOnes, hi,
    decide_true, Bool.true_and]
  by_cases h : i < 2
  · simp [h]
  · rw [decide_eq_false h, decide_eq_true (by omega), show 2 + (i - 2) = i by omega]; simp

theorem toNat_wordBase (a : Word) : (wordBase a).toNat = a.toNat / 4 * 4 := by
  rw [wordBase_eq_shift, BitVec.toNat_shiftLeft, BitVec.toNat_ushiftRight, Nat.shiftRight_eq_div_pow,
    Nat.shiftLeft_eq, Nat.mod_eq_of_lt (by omega)]

theorem wordBase_of_aligned {a : Word} (h : a.toNat % 4 = 0) : wordBase a = a :=
  BitVec.eq_of_toNat_eq (by rw [toNat_wordBase]; omega)

/-! ## One word access where it is not stopped -/

theorem crossesTop_eq_false_iff (a : Word) (n : Nat) : crossesTop a n = false ↔ a.toNat + n ≤ 2 ^ 32 := by
  rw [crossesTop, decide_eq_false_iff_not, not_lt]

theorem State.memRead_word {s : State} {a : Word} {priv : Bool} (hw : crossesTop a 4 = false)
    (ha : s.extAbort a 4 .read priv = false) : s.memRead a 4 priv = .ok (s.dataWord a) := by
  rw [State.memRead_open hw ha, State.packData_bytesAt_four]

theorem State.extAbort_setBytes (s : State) (b : Word) (bs : List Byte) (a : Word) (n : Nat) (kind : AccessKind)
    (priv : Bool) : (s.setBytes b bs).extAbort a n kind priv = s.extAbort a n kind priv := by
  rw [s.setBytes_eq]; rfl

/-! ## The tests of a doubleword (R107, R333, R346) -/

/-- The register pair of R333 and R346 itself. -/
def pairStops (rd : RegNum) : Bool := rd.val % 2 == 1 || rd == 14

/-- The base, or the offset register, in the pair. -/
def overlapStops (wb : Bool) (rn rd : RegNum) (rm : Option RegNum) : Bool × Bool :=
  (wb && (rn == rd || rn == rd + 1), rm == some rd || rm == some (rd + 1))

theorem doubleStops_eq (wb : Bool) (rn rd : RegNum) (rm : Option RegNum) : doubleStops wb rn rd rm =
    (pairStops rd || ((overlapStops wb rn rd rm).1 || ((overlapStops wb rn rd rm).2 ||
      transferStops wb rn rd rm false))) := by
  simp only [doubleStops, pairStops, overlapStops, Bool.or_assoc]

theorem checkDoubleword_eq (idx : Indexing) (rn rd : RegNum) (off : HalfOffset) : checkDoubleword idx rn rd off =
    (unpredictableIf (pairStops rd) .doublewordRegister >>= fun _ =>
      unpredictableIf (overlapStops (writesBack idx) rn rd (halfOffsetReg off)).1 .doublewordOverlap >>= fun _ =>
      unpredictableIf (overlapStops (writesBack idx) rn rd (halfOffsetReg off)).2 .doublewordOverlap >>= fun _ =>
      checkTransfer (writesBack idx) rn rd (halfOffsetReg off) false) := rfl

theorem checkDoubleword_of_stops {idx : Indexing} {rn rd : RegNum} {off : HalfOffset}
    (h : doubleStops (writesBack idx) rn rd (halfOffsetReg off) = true) :
    ∃ f ∈ Fault.doublewordRegister :: .doublewordOverlap :: transferFaults,
      checkDoubleword idx rn rd off = unpredictable f := by
  rw [doubleStops_eq] at h
  rw [checkDoubleword_eq]
  cases h1 : pairStops rd with
  | true => exact ⟨.doublewordRegister, by decide, rfl⟩
  | false => cases h2 : (overlapStops (writesBack idx) rn rd (halfOffsetReg off)).1 with
    | true => exact ⟨.doublewordOverlap, by decide, rfl⟩
    | false => cases h3 : (overlapStops (writesBack idx) rn rd (halfOffsetReg off)).2 with
      | true => exact ⟨.doublewordOverlap, by decide, rfl⟩
      | false =>
        rw [h1, h2, h3] at h
        obtain ⟨f, hf, hcheck⟩ := checkTransfer_of_stops h
        exact ⟨f, .tail _ (.tail _ hf), hcheck⟩

theorem checkDoubleword_of_not_stops {idx : Indexing} {rn rd : RegNum} {off : HalfOffset}
    (h : doubleStops (writesBack idx) rn rd (halfOffsetReg off) = false) : checkDoubleword idx rn rd off = .ok () := by
  simp only [doubleStops_eq, Bool.or_eq_false_iff] at h
  obtain ⟨h1, h2, h3, h4⟩ := h
  rw [checkDoubleword_eq, h1, h2, h3, checkTransfer_of_not_stops h4]; rfl

theorem pair_of_not_pairStops : ∀ {rd : RegNum}, pairStops rd = false → rd ≠ 15 ∧ rd + 1 ≠ 15 ∧ rd + 1 ≠ rd := by
  decide

/-- What the restrictions leave of the pair and the base. -/
theorem registers_of_not_doubleStops {wb : Bool} {rn rd : RegNum} {rm : Option RegNum}
    (h : doubleStops wb rn rd rm = false) :
    (rd ≠ 15 ∧ rd + 1 ≠ 15 ∧ rd + 1 ≠ rd) ∧ (wb = true → rn ≠ rd) ∧ (wb = true → rn ≠ rd + 1) ∧
      (wb = true → rn ≠ 15) := by
  simp only [doubleStops_eq, Bool.or_eq_false_iff] at h
  obtain ⟨hpair, hover, -, ht⟩ := h
  obtain ⟨hne, hrn, -⟩ := registers_of_not_stops ht
  simp only [overlapStops, Bool.and_eq_false_imp, Bool.or_eq_false_iff, beq_eq_false_iff_ne] at hover
  exact ⟨pair_of_not_pairStops hpair, hne, fun hw => (hover hw).2, hrn⟩

/-- The alignment test of R107 is its table. -/
theorem State.checkDouble_eq (s : State) (a : Word) : s.checkDouble a =
    (doubleAlign a s.aBit s.uBit).elim (unpredictable .unalignedUnpredictable)
      fun supported => if supported then .ok () else raise .dataAbort s := by
  unfold State.checkDouble doubleAlign
  by_cases h7 : a &&& 7 = 0
  · rw [if_pos h7, if_pos h7]; rfl
  · rw [if_neg h7, if_neg h7]
    cases hw : wordAligned a <;> cases s.aBit <;> cases s.uBit <;> simp_all [wordAligned]

/-- The tests of LDRD and STRD in their order, and `ok` where they pass (R333, R107, R91). -/
def DoubleGuarded (bad : Bool) (align : Option Bool) (a : Word) (i : Instr) (s : State) (ok : Prop) : Prop :=
  if bad then ∃ f ∈ Fault.doublewordRegister :: .doublewordOverlap :: transferFaults, exec i s = .fault f
  else match align with
    | none => exec i s = .fault .unalignedUnpredictable
    | some false => exec i s = .next (enter .dataAbort s)
    | some true => if crossesTop a 8 then exec i s = .fault .addressWrap else ok

theorem toNat_and_seven (a : Word) : (a &&& 7).toNat = a.toNat % 8 := toNat_and_low_bits a (k := 3) (by decide)

/-- Where the test of R107 passes the address is a multiple of four. -/
theorem aligned_of_doubleAlign {a : Word} {x y : Bool} (h : doubleAlign a x y = some true) : a.toNat % 4 = 0 := by
  unfold doubleAlign at h
  split at h
  next h7 =>
    have h8 : a.toNat % 8 = 0 := by rw [← toNat_and_seven, h7]; rfl
    omega
  next =>
    cases x <;> cases y <;> simp at h
    all_goals exact (and_three_eq_zero_iff a).mp h

theorem doubleGuarded_of_exec {i : Instr} {s : State} {ok : Prop} {idx : Indexing} {wb : Bool} {rn rd : RegNum}
    {off : HalfOffset} {a : Word} {rest : Res State}
    (hexec : exec i s = finish (checkDoubleword idx rn rd off >>= fun _ => s.checkDouble a >>= fun _ =>
      checkWrap a 2 >>= fun _ => rest))
    (hwb : writesBack idx = wb)
    (hok : doubleStops wb rn rd (halfOffsetReg off) = false → crossesTop a 8 = false → exec i s = finish rest → ok) :
    DoubleGuarded (doubleStops wb rn rd (halfOffsetReg off)) (doubleAlign a s.aBit s.uBit) a i s ok := by
  subst hwb
  unfold DoubleGuarded
  cases hb : doubleStops (writesBack idx) rn rd (halfOffsetReg off) with
  | true =>
    obtain ⟨f, hf, hcheck⟩ := checkDoubleword_of_stops hb
    rw [if_pos rfl]
    exact ⟨f, hf, by rw [hexec, hcheck]; rfl⟩
  | false =>
    rw [if_neg Bool.false_ne_true]
    rw [checkDoubleword_of_not_stops hb, State.checkDouble_eq] at hexec
    cases hal : doubleAlign a s.aBit s.uBit with
    | none => rw [hexec, hal]; rfl
    | some supported =>
      rw [hal] at hexec
      cases supported with
      | false => exact hexec
      | true =>
        rw [checkWrap, wordBase_of_aligned (aligned_of_doubleAlign hal)] at hexec
        cases hw : crossesTop a 8 with
        | true => rw [hexec, hw]; rfl
        | false => rw [hw] at hexec; exact hok hb hw hexec

theorem crossesTop_halves {a : Word} (h : crossesTop a 8 = false) :
    crossesTop a 4 = false ∧ crossesTop (a + 4) 4 = false := by
  rw [crossesTop_eq_false_iff] at h
  refine ⟨(crossesTop_eq_false_iff ..).mpr (by omega), (crossesTop_eq_false_iff ..).mpr ?_⟩
  rw [BitVec.toNat_add_of_lt (by simp; omega)]
  simp; omega

/-! ## LDRD -/

/-- The state after LDRD: as after a load of the even register, with the odd one too. -/
def State.afterDouble (s : State) (rn rd : RegNum) (wb : Option Word) (v0 v1 next : Word) : State :=
  (s.afterLoad rn rd wb v0 next).setReg (rd + 1) v1

theorem State.setRegIn_setPc (s : State) (m : Option Mode) (r : RegNum) (v p : Word) :
    (s.setPc p).setRegIn m r v = (s.setRegIn m r v).setPc p := by
  unfold State.setRegIn; split <;> rfl

theorem State.endDouble_eq (s : State) (rn rd : RegNum) (idx : Indexing) (u : Bool) (base off v0 v1 : Word)
    (hpc : s.pc.toNat + 4 < 2 ^ 32) :
    (((s.writeBase rn (indexedAddress idx u base off)).setReg rd v0).setReg (nextReg rd) v1).advance 4 =
      .ok (s.afterDouble rn rd (transferAddress idx u base off).2 v0 v1 (s.pc + 4)) := by
  rw [State.writeBase_indexedAddress, State.advance_eq (by simpa using hpc)]
  simp only [State.afterDouble, State.afterLoad, State.setReg_eq, State.setRegIn_setPc, State.setRegIn_pc,
    State.setBase_pc]
  rfl

section
variable (s : State) {rn rd : RegNum} {wb : Option Word} (v0 v1 next : Word)

theorem State.afterDouble_eq : s.afterDouble rn rd wb v0 v1 next =
    (s.afterLoad rn rd wb v0 next).setRegIn s.mode? (rd + 1) v1 := by
  rw [State.afterDouble, State.setReg_eq, State.mode?_congr (s.afterLoad_cpsr ..)]

theorem State.afterDouble_frame :
    Frame s (s.afterDouble rn rd wb v0 v1 next) next (rd :: (rd + 1) :: baseDest rn wb) 0 := by
  obtain ⟨hpc, hregs, hstatus, hsystem, hmemory⟩ := s.afterLoad_frame rn rd wb v0 next
  have hmore : SameRegs s (s.afterLoad rn rd wb v0 next) (rd :: (rd + 1) :: baseDest rn wb) :=
    fun k hk => hregs k fun r hr => hk r (by simp at hr ⊢; tauto)
  rw [State.afterDouble_eq]
  exact ⟨by simpa using hpc, hmore.setRegIn v1 (by simp), by simpa [SameStatus] using hstatus,
    hsystem.setRegIn .., fun b => (State.byte_congr (by simp) b).trans (hmemory b)⟩

theorem State.afterDouble_cpsr : (s.afterDouble rn rd wb v0 v1 next).cpsr = s.cpsr := by
  rw [State.afterDouble_eq, State.setRegIn_cpsr, State.afterLoad_cpsr]

theorem State.afterDouble_regs (h : rd ≠ 15 ∧ rd + 1 ≠ 15 ∧ rd + 1 ≠ rd) :
    (s.afterDouble rn rd wb v0 v1 next).reg rd = v0 ∧ (s.afterDouble rn rd wb v0 v1 next).reg (rd + 1) = v1 := by
  obtain ⟨h0, h1, hne⟩ := h
  have hfirst := s.afterLoad_reg (rn := rn) (wb := wb) v0 next h0
  rw [State.reg, State.mode?_congr (s.afterLoad_cpsr ..)] at hfirst
  rw [State.reg, State.reg, State.mode?_congr (s.afterDouble_cpsr ..), State.afterDouble_eq]
  exact ⟨(State.regIn_setRegIn_ne _ _ _ _ _ hne).trans hfirst, State.regIn_setRegIn_self _ _ _ _ h1⟩

theorem State.afterDouble_baseIs (hrn : wb.isSome = true → rn ≠ 15) (h0 : wb.isSome = true → rn ≠ rd)
    (h1 : wb.isSome = true → rn ≠ rd + 1) : BaseIs (s.afterDouble rn rd wb v0 v1 next) rn wb :=
  (s.afterLoad_baseIs v0 next hrn h0).setRegIn (rd + 1) v1 fun h => (h1 h).symm

end

/-- LDRD after its tests: both words are read before anything is written (R98, R333). -/
theorem loadDouble_yields {s : State} {i : Instr} {a : Word} {t : State} {post : State → Prop}
    (hw : crossesTop a 8 = false) {k : Word → Word → Res State}
    (hexec : exec i s = finish (s.memRead a 4 s.privileged >>= fun v0 =>
      s.memRead (a + 4) 4 s.privileged >>= fun v1 => k v0 v1))
    (hk : k (s.dataWord a) (s.dataWord (a + 4)) = .ok t) (hpost : post t) :
    if s.extAbort a 4 .read s.privileged || s.extAbort (a + 4) 4 .read s.privileged
    then exec i s = .next (enter .dataAbort s) else Yields i s post := by
  obtain ⟨hw0, hw1⟩ := crossesTop_halves hw
  cases h0 : s.extAbort a 4 .read s.privileged with
  | true => rw [State.memRead_abort hw0 h0] at hexec; exact hexec
  | false =>
    rw [State.memRead_word hw0 h0] at hexec
    cases h1 : s.extAbort (a + 4) 4 .read s.privileged with
    | true => rw [State.memRead_abort hw1 h1] at hexec; exact hexec
    | false =>
      rw [State.memRead_word hw1 h1] at hexec
      exact ⟨t, hexec.trans (congrArg finish hk), hpost⟩

/-- STRD after its tests: the first word stays written where the second access aborts (R98, R346). -/
theorem storeDouble_yields {s : State} {i : Instr} {a v0 v1 : Word} {t : State} {post : State → Prop}
    (hw : crossesTop a 8 = false) {k : State → Res State}
    (hexec : exec i s = finish (s.memWrite a 4 v0 s.privileged >>= fun s1 =>
      s1.memWrite (a + 4) 4 v1 s.privileged >>= k))
    (hk : k (s.setBytes a (wordBytes s.bigEndian [v0, v1])) = .ok t) (hpost : post t) :
    if s.extAbort a 4 .write s.privileged then exec i s = .next (enter .dataAbort s)
    else if s.extAbort (a + 4) 4 .write s.privileged then
      ∃ m, exec i s = .next (enter .dataAbort { s with mem := m }) ∧
        ({ s with mem := m } : State).dataWord a = v0 ∧ SameMemoryBut s { s with mem := m } a 4
    else Yields i s post := by
  obtain ⟨hw0, hw1⟩ := crossesTop_halves hw
  cases h0 : s.extAbort a 4 .write s.privileged with
  | true => rw [State.memWrite_abort hw0 h0] at hexec; exact hexec
  | false =>
    have h01 : (s.setBytes a (unpackData s.bigEndian v0 4)).extAbort (a + 4) 4 .write s.privileged = _ :=
      s.extAbort_setBytes ..
    have hsecond : exec i s = finish ((s.setBytes a (unpackData s.bigEndian v0 4)).memWrite (a + 4) 4 v1
        s.privileged >>= k) := by rw [hexec, State.memWrite_open hw0 h0]; rfl
    cases h1 : s.extAbort (a + 4) 4 .write s.privileged with
    | true =>
      have hmem := s.setBytes_eq a (unpackData s.bigEndian v0 4)
      refine ⟨(s.setBytes a (unpackData s.bigEndian v0 4)).mem, ?_, ?_, ?_⟩
      · rw [State.memWrite_abort hw1 (h01.trans h1)] at hsecond
        rw [← hmem, hsecond]; rfl
      · rw [← hmem, s.dataWord_stored]
      · rw [← hmem]; simpa using s.sameMemoryBut_setBytes a (unpackData s.bigEndian v0 4)
    | false =>
      rw [State.memWrite_open hw1 (h01.trans h1), State.setBytes_bigEndian] at hsecond
      have hboth := s.setBytes_wordBytes_cons a v0 [v1]
      rw [wordBytes_cons, wordBytes, List.flatMap_nil, List.append_nil] at hboth
      rw [hboth] at hsecond
      exact ⟨t, hsecond.trans (congrArg finish hk), hpost⟩

/-- Settles O46: the tests, then two word accesses in turn. -/
theorem doublewordTransfersYield : Obligations.DoublewordTransfersYield := by
  intro c idx u rn rd off s ⟨hc, hpc⟩ x a ldrd strd guarded aborts
  have haddr : (s.halfAddress idx u rn off).addr = a := indexedAddress_addr ..
  have hwb : writesBack idx = x.2.isSome := writesBack_eq ..
  refine ⟨?ldrd, ?strd⟩
  case ldrd =>
    have hexec : exec ldrd s = _ := exec_of_passed hc rfl
    simp only [haddr] at hexec
    refine doubleGuarded_of_exec hexec hwb fun hb hw he => ?_
    obtain ⟨hpair, h0, h1, hrn⟩ := registers_of_not_doubleStops hb
    have hregs := s.afterDouble_regs (rn := rn) (wb := x.2) (s.dataWord a) (s.dataWord (a + 4)) (s.pc + 4) hpair
    refine loadDouble_yields hw he ?_
      ⟨hregs.1, hregs.2, s.afterDouble_baseIs _ _ _ hrn h0 h1, s.afterDouble_frame ..⟩
    exact s.endDouble_eq rn rd idx u _ _ _ _ hpc
  case strd =>
    have hexec : exec strd s = _ := exec_of_passed hc rfl
    simp only [haddr] at hexec
    refine doubleGuarded_of_exec hexec hwb fun hb hw he => ?_
    obtain ⟨-, -, -, hrn⟩ := registers_of_not_doubleStops hb
    have hword := fun j => s.dataWord_storedWords a [s.reg rd, s.reg (nextReg rd)] (j := j) (by simp)
    refine storeDouble_yields hw he (s.endStore_setBytes a _ rn idx u _ _ hpc)
      ⟨?_, ?_, s.afterStore_baseIs a _ rn _ hrn, ?_⟩
    · have h0 := hword 0 (by simp)
      rwa [Nat.mul_zero, BitVec.add_zero, ← s.afterStore_dataWord a _ rn x.2 (s.pc + 4)] at h0
    · exact (s.afterStore_dataWord ..).trans (hword 1 (by simp))
    · have hframe := s.afterStore_frame a (wordBytes s.bigEndian [s.reg rd, s.reg (nextReg rd)]) rn x.2 (s.pc + 4)
      rwa [length_wordBytes] at hframe

end Sys2Proof.Machine
end

section
/-! Proofs. The exclusives and what their monitor leaves: O47. -/

namespace Sys2Proof.Machine

/-! ## The monitor (R110 to R113) -/

/-- `u` is `s` but for the monitor and the count of free values. -/
structure OnlyMonitor (s u : State) : Prop where
  system : SameSystem (s.withMonitor u) u
  regs : u.regs = s.regs
  pc : u.pc = s.pc
  cpsr : u.cpsr = s.cpsr
  mem : u.mem = s.mem

theorem onlyMonitor_markExclusive (s : State) (a : Word) : OnlyMonitor s (s.markExclusive a) := by
  refine ⟨?_, by simp, by simp, by simp, by simp⟩
  constructor <;> simp [State.withMonitor]

/-- What the test of an STREX leaves: the monitor cleared, and some count of free values (R112). -/
def State.tested (s : State) (a : Word) (k : Nat) : State := { s.cleared a with freeCount := k }

theorem onlyMonitor_tested (s : State) (a : Word) (k : Nat) : OnlyMonitor s (s.tested a k) :=
  ⟨by constructor <;> rfl, rfl, rfl, rfl, rfl⟩

theorem State.sameMonitor_tested (s : State) (a : Word) (k : Nat) : SameMonitor (s.cleared a) (s.tested a k) :=
  ⟨rfl, rfl, rfl, rfl⟩

theorem SameMonitor.trans {s t u : State} (h : SameMonitor s t) (h' : SameMonitor t u) : SameMonitor s u := by
  obtain ⟨h1, h2, h3, h4⟩ := h
  obtain ⟨k1, k2, k3, k4⟩ := h'
  exact ⟨k1.trans h1, k2.trans h2, k3.trans h3, k4.trans h4⟩

theorem State.clearExclusive_eq (s : State) (a : Word) : s.clearExclusive a = s.cleared a := by
  unfold State.clearExclusive State.cleared
  split <;> rfl

/-- The test leaves the monitor cleared, whatever it answers (R112). -/
theorem State.isExclusive_state (s : State) (a : Word) :
    ∃ k, (s.isExclusive a).2 = s.tested a k := by
  obtain ⟨-, k, hk⟩ := s.isExclusive_spec a
  exact ⟨k, by rw [hk, State.clearExclusive_eq]; rfl⟩

theorem State.held_iff (s : State) (a : Word) : s.Held a ↔ s.marked a = true := by
  unfold State.Held State.marked; split <;> exact beq_iff_eq.symm

theorem State.doubtful_iff (s : State) (a : Word) : s.Doubtful a ↔ s.markOpen a = true := by
  unfold State.Doubtful State.markOpen; split <;> rfl

theorem State.isExclusive_of_held {s : State} {a : Word} (h : s.Held a) (hd : ¬ s.Doubtful a) :
    (s.isExclusive a).1 = true := by
  rw [State.isExclusive_marked ((s.held_iff a).mp h) (by rwa [s.doubtful_iff, Bool.not_eq_true] at hd)]

theorem State.isExclusive_of_not_held {s : State} {a : Word} (h : ¬ s.Held a) : (s.isExclusive a).1 = false := by
  rw [State.isExclusive_unmarked (by rwa [s.held_iff, Bool.not_eq_true] at h)]

/-! ## Frames up to the monitor -/

section
variable {s u t : State}

theorem SameSystem.withMonitor (h : SameSystem u t) (hu : OnlyMonitor s u) : SameSystem (s.withMonitor t) t where
  spsr := h.spsr.trans hu.system.spsr
  exclOutstanding := rfl
  exclAddr := rfl
  openOutstanding := rfl
  openAddr := rfl
  cop := h.cop.trans hu.system.cop
  cp15c1 := h.cp15c1.trans hu.system.cp15c1
  hivecs := h.hivecs.trans hu.system.hivecs
  je := h.je.trans hu.system.je
  satSetsQ := h.satSetsQ.trans hu.system.satSetsQ
  irqPending := h.irqPending.trans hu.system.irqPending
  fiqPending := h.fiqPending.trans hu.system.fiqPending
  resetPending := h.resetPending.trans hu.system.resetPending
  aborts := h.aborts.trans hu.system.aborts
  attrs := h.attrs.trans hu.system.attrs

theorem SameRegs.withMonitor {dests : List RegNum} (h : SameRegs u t dests) (hu : OnlyMonitor s u) :
    SameRegs (s.withMonitor t) t dests := fun k hk => by
  refine (h k fun r hr => ?_).trans (by rw [hu.regs]; rfl)
  rw [State.mode?_congr hu.cpsr]
  exact hk r hr

theorem SameSystem.sameMonitor (h : SameSystem u t) : SameMonitor u t :=
  ⟨h.exclOutstanding, h.exclAddr, h.openOutstanding, h.openAddr⟩

end

/-- The state after an exclusive: from the state with its new monitor, bytes stored, Rd, the pc. -/
def State.afterExclusive (u : State) (a : Word) (bs : List Byte) (rd : RegNum) (v next : Word) : State :=
  ((u.setBytes a bs).setReg rd v).setPc next

section
variable (u : State) (a : Word) (bs : List Byte) (rd : RegNum) (v next : Word)

theorem State.afterExclusive_cpsr : (u.afterExclusive a bs rd v next).cpsr = u.cpsr := by simp [State.afterExclusive]

theorem State.afterExclusive_dataWord (b : Word) :
    (u.afterExclusive a bs rd v next).dataWord b = (u.setBytes a bs).dataWord b :=
  State.dataWord_congr (by simp [State.afterExclusive]) (by simp [State.afterExclusive]) b

theorem State.afterExclusive_mem : (u.afterExclusive a bs rd v next).mem = (u.setBytes a bs).mem := by
  simp [State.afterExclusive]

theorem State.afterExclusive_system : SameSystem u (u.afterExclusive a bs rd v next) :=
  (((SameSystem.refl u).setBytes a bs).setRegIn ..).setPc next

theorem State.afterExclusive_regs : SameRegs u (u.afterExclusive a bs rd v next) [rd] := by
  have hbytes : SameRegs u (u.setBytes a bs) [rd] := (SameRegs.refl u _).of_regs_eq (u.setBytes_regs a bs)
  rw [State.afterExclusive, State.setReg_eq, State.mode?_congr (u.setBytes_cpsr a bs)]
  exact hbytes.setRegIn v (by simp)

theorem State.afterExclusive_reg (h : rd ≠ 15) : (u.afterExclusive a bs rd v next).reg rd = v := by
  rw [State.reg, State.mode?_congr (u.afterExclusive_cpsr ..), State.afterExclusive, State.setPc_regIn _ _ _ _ h,
    State.setReg_eq, State.mode?_congr (u.setBytes_cpsr a bs), State.regIn_setRegIn_self _ _ _ _ h]

variable {u}

/-- The end of an exclusive. -/
theorem State.endExclusive_eq {pc : Word} (hu : u.pc = pc) (hpc : pc.toNat + 4 < 2 ^ 32) :
    ((u.setBytes a bs).setReg rd v).advance 4 = .ok (u.afterExclusive a bs rd v (pc + 4)) := by
  subst hu
  rw [State.advance_eq (by simpa using hpc)]
  simp [State.afterExclusive]

variable {s : State}

/-- An exclusive that stores changes those bytes, Rd, the pc and the monitor. -/
theorem State.afterExclusive_storeFrame (hu : OnlyMonitor s u) :
    let t := u.afterExclusive a bs rd v next
    StoreFrame (s.withMonitor t) t next [rd] a bs.length where
  pc := rfl
  regs := SameRegs.withMonitor (u.afterExclusive_regs a bs rd v next) hu
  status := (u.afterExclusive_cpsr ..).trans hu.cpsr
  system := (u.afterExclusive_system ..).withMonitor hu
  memory := fun b hb =>
    (((u.sameMemoryBut_setBytes a bs).of_mem_eq (u.afterExclusive_mem ..)) b hb).trans (State.byte_congr hu.mem b)

/-- One that does not store changes Rd, the pc and the monitor. -/
theorem State.afterExclusive_frame (hu : OnlyMonitor s u) :
    let t := u.afterExclusive a [] rd v next
    Frame (s.withMonitor t) t next [rd] 0 := by
  intro t
  obtain ⟨hpc, hregs, hstatus, hsystem, hmemory⟩ := State.afterExclusive_storeFrame a [] rd v next hu
  exact ⟨hpc, hregs, .of_cpsr_eq hstatus 0, hsystem, fun b => hmemory b (by simp)⟩

end

/-! ## The access (R109) -/

/-- An access that must be aligned ends with its register restriction, its alignment test, or goes on. -/
theorem exclusiveYields_of_exec {i : Instr} {s : State} {bad : Bool} {f : Fault} {a : Word} {rest : Res State}
    {ok : Prop} (hexec : exec i s = finish (unpredictableIf bad f >>= fun _ => s.checkExclusive a >>= fun _ => rest))
    (hok : bad = false → crossesTop a 4 = false → exec i s = finish rest → ok) : ExclusiveYields bad f a i s ok := by
  unfold ExclusiveYields
  cases hb : bad with
  | true => rw [hb] at hexec; exact hexec
  | false =>
    rw [hb] at hexec
    rw [State.checkExclusive] at hexec
    rw [if_neg Bool.false_ne_true]
    split
    next ha =>
      rw [if_neg (mt (wordAligned_iff a).mp ha)] at hexec
      split <;> rename_i hau
      · rw [if_pos hau] at hexec; exact hexec
      · rw [if_neg hau] at hexec; exact hexec
    next ha =>
      have ha := not_not.mp ha
      have hw : crossesTop a 4 = false := by
        have := (and_three_eq_zero_iff a).mp ha
        rw [crossesTop_eq_false_iff]; omega
      rw [if_pos ((wordAligned_iff a).mpr ha)] at hexec
      exact hok hb hw hexec

/-! ## STREX (R112, R347) -/

/-- STREX has found the mark: the store, and 0 in Rd, or its abort with the mark cleared. -/
def StrexStores (i : Instr) (s : State) (a : Word) (rd : RegNum) (v : Word) : Prop :=
  if s.extAbort a 4 .write s.privileged then ∃ f, exec i s = .next (enter .dataAbort { s.cleared a with freeCount := f })
  else Yields i s fun t => t.reg rd = 0 ∧ t.dataWord a = v ∧ StoreFrame (s.withMonitor t) t (s.pc + 4) [rd] a 4 ∧
    SameMonitor (s.cleared a) t

/-- STREX has found no mark: 1 in Rd. -/
def StrexFails (i : Instr) (s : State) (a : Word) (rd : RegNum) : Prop :=
  Yields i s fun t => t.reg rd = 1 ∧ Frame (s.withMonitor t) t (s.pc + 4) [rd] 0 ∧ SameMonitor (s.cleared a) t

section
variable {i : Instr} {s : State} {a v : Word} {rd : RegNum} (hrd : rd ≠ 15) (hpc : s.pc.toNat + 4 < 2 ^ 32)
  (hexec : exec i s = finish (if (s.isExclusive a).1 then
    (s.isExclusive a).2.memWrite a 4 v s.privileged >>= fun s1 => (s1.setReg rd 0).advance 4
    else ((s.isExclusive a).2.setReg rd 1).advance 4))
include hrd hpc hexec

theorem strexStores (hw : crossesTop a 4 = false) (h : (s.isExclusive a).1 = true) : StrexStores i s a rd v := by
  obtain ⟨k, hk⟩ := s.isExclusive_state a
  rw [h, if_pos rfl, hk] at hexec
  unfold StrexStores
  cases ha : s.extAbort a 4 .write s.privileged with
  | true => exact ⟨k, hexec.trans (by rw [State.memWrite_abort (s := s.tested a k) hw ha]; rfl)⟩
  | false =>
    have hu := onlyMonitor_tested s a k
    have hm := s.sameMonitor_tested a k
    rw [State.memWrite_open (s := s.tested a k) hw ha] at hexec
    generalize s.tested a k = u at hexec hu hm
    have hframe := State.afterExclusive_storeFrame a (unpackData u.bigEndian v 4) rd 0 (s.pc + 4) hu
    rw [length_unpackData] at hframe
    refine ⟨_, hexec.trans (congrArg finish (State.endExclusive_eq a _ rd 0 hu.pc hpc)),
      State.afterExclusive_reg _ _ _ _ _ _ hrd, ?_, hframe, ?_⟩
    · rw [State.afterExclusive_dataWord, u.dataWord_stored]
    · exact hm.trans (State.afterExclusive_system ..).sameMonitor

theorem strexFails (h : (s.isExclusive a).1 = false) : StrexFails i s a rd := by
  obtain ⟨k, hk⟩ := s.isExclusive_state a
  have hu := onlyMonitor_tested s a k
  have hm := s.sameMonitor_tested a k
  rw [h, if_neg Bool.false_ne_true, hk] at hexec
  generalize s.tested a k = u at hexec hu hm
  exact ⟨_, hexec.trans (congrArg finish (State.endExclusive_eq a [] rd 1 hu.pc hpc)),
    State.afterExclusive_reg _ _ _ _ _ _ hrd, State.afterExclusive_frame a rd 1 _ hu,
    hm.trans (State.afterExclusive_system ..).sameMonitor⟩

end

/-- LDREX after its tests: the read, then the mark of the exact address (R111, R334). -/
theorem ldrex_yields {i : Instr} {s : State} {a : Word} {rd : RegNum} (hrd : rd ≠ 15)
    (hpc : s.pc.toNat + 4 < 2 ^ 32) (hw : crossesTop a 4 = false)
    (hexec : exec i s = finish (s.memRead a 4 s.privileged >>= fun v => ((s.markExclusive a).setReg rd v).advance 4)) :
    if s.extAbort a 4 .read s.privileged then exec i s = .next (enter .dataAbort s)
    else Yields i s fun t => t.reg rd = s.dataWord a ∧ Frame (s.withMonitor t) t (s.pc + 4) [rd] 0 ∧
      SameMonitor (s.markExclusive a) t := by
  cases ha : s.extAbort a 4 .read s.privileged with
  | true => rw [State.memRead_abort hw ha] at hexec; exact hexec
  | false =>
    have hmark := onlyMonitor_markExclusive s a
    rw [State.memRead_word hw ha] at hexec
    exact ⟨_, hexec.trans (congrArg finish (State.endExclusive_eq a [] rd (s.dataWord a) hmark.pc hpc)),
      State.afterExclusive_reg _ _ _ _ _ _ hrd, State.afterExclusive_frame a rd _ _ hmark,
      (State.afterExclusive_system ..).sameMonitor⟩

/-- Settles O47: the tests; for STREX, the answer of the monitor decides which of its two endings it has, and the mark's
being held and not in doubt decides the answer. -/
theorem exclusivesYield : Obligations.ExclusivesYield := by
  intro c rn rd rm s ⟨hc, hpc⟩ a ldrex strex badEx marks stored failed
  refine ⟨?ldrex, ?strex⟩
  case ldrex =>
    refine exclusiveYields_of_exec (exec_of_passed hc rfl) fun hb hw he => ?_
    have hrd : rd ≠ 15 := by
      simp only [Bool.or_eq_false_iff, beq_eq_false_iff_ne] at hb; tauto
    exact ldrex_yields hrd hpc hw he
  case strex =>
    refine exclusiveYields_of_exec (exec_of_passed hc rfl) fun hb hw he => ?_
    have hrd : rd ≠ 15 := by
      simp only [badEx, Bool.or_eq_false_iff, beq_eq_false_iff_ne] at hb; tauto
    have hstores : (s.isExclusive a).1 = true → stored := strexStores hrd hpc he hw
    have hfails : (s.isExclusive a).1 = false → failed := strexFails hrd hpc he
    refine ⟨fun hh hd => hstores (State.isExclusive_of_held hh hd), fun _ _ => ?_,
      fun hh => hfails (State.isExclusive_of_not_held hh)⟩
    cases hans : (s.isExclusive a).1 with
    | true => exact .inl (hstores hans)
    | false => exact .inr (hfails hans)

end Sys2Proof.Machine
end

section
/-! Proofs. The entry to an exception: O15. -/

namespace Sys2Proof.Machine

/-! ## The status register after an entry (R655) -/

/-- The exceptions that set A (R655). -/
def Exc.setsA : Exc → Bool
  | .reset | .fiq | .prefetchAbort | .dataAbort | .irq => true
  | .undefined | .softwareInterrupt => false

/-- The exceptions that set F (R655). -/
def Exc.setsF : Exc → Bool
  | .reset | .fiq => true
  | .prefetchAbort | .dataAbort | .irq | .undefined | .softwareInterrupt => false

/-- A bit set where a condition holds. -/
def setIf (w : Word) (i : Nat) (b : Bool) : Word := if b then setBit w i true else w

theorem setIf_getLsbD (w : Word) (i j : Nat) (b : Bool) (hi : i < 32) (hj : j < 32) :
    (setIf w i b).getLsbD j = if j = i then b || w.getLsbD j else w.getLsbD j := by
  cases b with
  | false => simp [setIf]
  | true => rw [setIf, if_pos rfl, setBit_getLsbD _ _ _ _ hi hj, Bool.true_or]

/-- The mode of an entry over the status register before it. -/
def Exc.moded (e : Exc) (old : Word) : Word := maskWrite (old &&& psrValid) (e.mode.bits.setWidth 32) 0x1F

theorem Exc.moded_getLsbD (e : Exc) (old : Word) {j : Nat} (hj : j < 32) : (e.moded old).getLsbD j =
    if j < 5 then e.mode.bits.getLsbD j else old.getLsbD j && psrValid.getLsbD j := by
  have hmask : (0x1F : Word).getLsbD j = decide (j < 5) := by revert j; decide
  rw [Exc.moded, maskWrite_getLsbD _ _ _ _ hj, hmask, BitVec.getLsbD_setWidth, BitVec.getLsbD_and, decide_eq_true hj,
    Bool.true_and]
  by_cases h : j < 5 <;> simp [h]

theorem Exc.psr_eq (e : Exc) (old : Word) : e.psr old =
    setIf (setIf (setBit (setBit (setBit (setBit (e.moded old) 5 false) 24 false) 7 true) 9 false) 6 e.setsF)
      8 e.setsA := by
  cases e <;> rfl

/-- An entry bit by bit: A and F set or kept; E, T and J clear; I set; the mode; and the rest as before. -/
theorem Exc.psr_getLsbD (e : Exc) (old : Word) {j : Nat} (hj : j < 32) : (e.psr old).getLsbD j =
    if j = 8 then e.setsA || old.getLsbD 8 else if j = 6 then e.setsF || old.getLsbD 6
    else if j = 9 then false else if j = 7 then true else if j = 24 then false else if j = 5 then false
    else if j < 5 then e.mode.bits.getLsbD j else old.getLsbD j && psrValid.getLsbD j := by
  rw [Exc.psr_eq, setIf_getLsbD _ _ _ _ (by decide) hj, setIf_getLsbD _ _ _ _ (by decide) hj,
    setBit_getLsbD _ _ _ _ (by decide) hj, setBit_getLsbD _ _ _ _ (by decide) hj,
    setBit_getLsbD _ _ _ _ (by decide) hj, setBit_getLsbD _ _ _ _ (by decide) hj, Exc.moded_getLsbD e old hj]
  split
  next h => subst h; simp [psrValid]
  next =>
    split
    next h => subst h; simp [psrValid]
    next => rfl

/-- An entry writes none of the bits that neither it nor the mode names. -/
theorem Exc.psr_getLsbD_kept (e : Exc) (old : Word) {j : Nat} (hj : j < 32)
    (h : j ∉ [0, 1, 2, 3, 4, 5, 6, 7, 8, 9, 24]) : (e.psr old).getLsbD j = (old.getLsbD j && psrValid.getLsbD j) := by
  simp only [List.mem_cons, List.not_mem_nil, or_false, not_or] at h
  have h5 : ¬ j < 5 := by omega
  rw [Exc.psr_getLsbD e old hj]
  simp only [h, h5, if_false]

/-- The flags of the program are kept. -/
theorem Exc.psr_flags (e : Exc) (old : Word) : e.psr old &&& 0xF80F0000 = old &&& 0xF80F0000 := by
  have hmask : ∀ j < 32, (0xF80F0000 : Word).getLsbD j = true →
      j ∉ [0, 1, 2, 3, 4, 5, 6, 7, 8, 9, 24] ∧ psrValid.getLsbD j = true := by decide
  refine BitVec.eq_of_getLsbD_eq fun j hj => ?_
  rw [BitVec.getLsbD_and, BitVec.getLsbD_and]
  cases hm : (0xF80F0000 : Word).getLsbD j with
  | false => rw [Bool.and_false, Bool.and_false]
  | true =>
    obtain ⟨hkept, hvalid⟩ := hmask j hj hm
    rw [Exc.psr_getLsbD_kept e old hj hkept, hvalid, Bool.and_true]

/-- The bits that do not exist are 0 (R61). -/
theorem Exc.psr_valid (e : Exc) (old : Word) : e.psr old &&& ~~~psrValid = 0 := by
  have hmask : ∀ j < 32, psrValid.getLsbD j = false → j ∉ [0, 1, 2, 3, 4, 5, 6, 7, 8, 9, 24] := by decide
  refine BitVec.eq_of_getLsbD_eq fun j hj => ?_
  rw [BitVec.getLsbD_and, BitVec.getLsbD_not, decide_eq_true hj, Bool.true_and]
  cases hm : psrValid.getLsbD j with
  | true => simp
  | false =>
    rw [Exc.psr_getLsbD_kept e old hj (hmask j hj hm), hm]; simp

theorem Exc.modeField_psr (e : Exc) (old : Word) : modeField (e.psr old) = e.mode.bits := by
  refine BitVec.eq_of_getLsbD_eq fun j hj => ?_
  rw [modeField, BitVec.getLsbD_extractLsb', Nat.zero_add, Exc.psr_getLsbD e old (by omega), decide_eq_true hj,
    Bool.true_and]
  have hne : ∀ n, 5 ≤ n → j ≠ n := fun n hn => by omega
  simp only [hne 5, hne 6, hne 7, hne 8, hne 9, hne 24, hj, if_true, if_false, Nat.reduceLeDiff]

/-! ## The state after an entry (R652, R655, R656) -/

section
variable {e : Exc} {k : Fin 5} (s : State) (he : e ≠ .reset) (hk : e.mode.spsrIndex = some k)
include he hk

theorem enter_cpsr : (enter e s).cpsr = e.psr s.cpsr := by rw [enter_eq s he hk]

theorem enter_pc : (enter e s).pc = s.vectorBase + e.vector := by rw [enter_eq s he hk]

theorem enter_regs : (enter e s).regs = (s.setRegIn (some e.mode) 14 (e.link s)).regs := by rw [enter_eq s he hk]; rfl

theorem enter_spsr : (enter e s).spsr = s.spsr.set k.val (s.cpsr &&& psrValid) := by rw [enter_eq s he hk]

theorem enter_mode? : (enter e s).mode? = some e.mode := by
  rw [State.mode?, enter_cpsr s he hk, Exc.modeField_psr, Mode.ofBits_bits]

theorem enter_system : SameSystem { s.openMonitor with spsr := (enter e s).spsr } (enter e s) := by
  rw [enter_eq s he hk]
  constructor <;> simp

end

/-- One row of the tables of R652 and R656. -/
theorem entersAs {e : Exc} {k : Fin 5} {armLink thumbLink : Word} (he : e ≠ .reset) (hk : e.mode.spsrIndex = some k)
    (hlink : ∀ s : State, e.link s = s.pc + if s.thumb then thumbLink else armLink) :
    EntersAs e e.mode e.vector armLink thumbLink e.setsA e.setsF := by
  intro s t
  have hbit := fun {j : Nat} (hj : j < 32) =>
    (congrArg (BitVec.getLsbD · j) (enter_cpsr s he hk)).trans (e.psr_getLsbD s.cpsr hj)
  refine ⟨enter_mode? s he hk, enter_pc s he hk, ?link, ?spsr, hbit (by decide), hbit (by decide), hbit (by decide),
    hbit (by decide), hbit (by decide), hbit (by decide), ?flags, ?valid, ?regs, ?spsrs, enter_system s he hk, ?memory⟩
  case link =>
    rw [State.regIn_congr (enter_regs s he hk) _ (by decide), State.regIn_setRegIn_self _ _ _ _ (by decide), hlink]
  case spsr =>
    rw [State.spsr?_of_mode (enter_mode? s he hk), hk, Option.map_some, enter_spsr s he hk, Vector.getElem_set_self]
    rfl
  case flags => rw [enter_cpsr s he hk, Exc.psr_flags]
  case valid => rw [enter_cpsr s he hk, Exc.psr_valid]
  case regs =>
    intro j hj
    rw [enter_regs s he hk]
    exact s.setRegIn_regs_ne _ _ _ j hj
  case spsrs =>
    intro j hj
    have hne : k.val ≠ j.val := fun h => hj (by rw [hk, Fin.ext h])
    rw [enter_spsr s he hk, Vector.getElem_set_ne _ _ hne]
  case memory => exact .of_mem_eq (enter_mem e s he)

/-- Settles O15: each exception is its row of the tables. -/
theorem exceptionEntrySavesAndJumps : Obligations.ExceptionEntrySavesAndJumps := by
  have hsame : ∀ (s : State) (w : Word), s.pc + w = s.pc + if s.thumb then w else w := fun s w => by rw [ite_self]
  have hsplit : ∀ s : State, (if s.thumb then s.pc + 2 else s.pc + 4) = s.pc + if s.thumb then 2 else 4 := fun s =>
    (apply_ite (s.pc + ·) ..).symm
  exact ⟨entersAs (e := .undefined) (by decide) rfl hsplit, entersAs (e := .softwareInterrupt) (by decide) rfl hsplit,
    entersAs (e := .prefetchAbort) (by decide) rfl fun s => hsame s 4,
    entersAs (e := .dataAbort) (by decide) rfl fun s => hsame s 8,
    entersAs (e := .irq) (by decide) rfl fun s => hsame s 4, entersAs (e := .fiq) (by decide) rfl fun s => hsame s 4⟩

end Sys2Proof.Machine
end

section
/-! Proofs. Data processing with Rd = pc: O22. -/

namespace Sys2Proof.Machine

/-! ## Sums and differences (R15) -/

theorem addWithCarry_sum (x y : Word) (c : Bool) : (addWithCarry x y c).1 = x + y + bitWord c := by
  refine BitVec.eq_of_toNat_eq ?_
  cases c <;> simp [addWithCarry, bitWord]

theorem add_not_add_bitWord (x y : Word) (c : Bool) : x + ~~~y + bitWord c = x - y - bitWord (!c) := by
  have hnot : ~~~y = -y - 1#32 := by rw [BitVec.neg_eq_not_add, BitVec.add_sub_cancel]
  rw [hnot]
  cases c <;> simp only [bitWord, Bool.not_true, Bool.not_false, if_true, Bool.false_eq_true, if_false] <;> bv_omega

/-! ## The exception return (R675) -/

/-- The state after an exception return with this status register to this address. -/
def State.returned (s : State) (psr pc : Word) : State := (s.openMonitor.setCpsr (psr &&& psrValid)).setPc pc

/-- An exception return: its stops, then the branch in the instruction set of the new T bit. -/
theorem State.exceptionReturn_eq (s : State) (psr target : Word) : s.exceptionReturn psr target =
    if (Mode.ofBits (modeField (psr &&& psrValid))).isNone then unpredictable .returnMode
    else if (psr &&& psrValid).getLsbD 24 then unpredictable .returnJava
    else if (psr &&& psrValid).getLsbD 5 then .ok (s.returned psr (target &&& 0xFFFFFFFE))
    else if target &&& 3 = 0 then .ok (s.returned psr target)
    else unpredictable .branchUnaligned := rfl

theorem SameStatus.all (s t : State) : SameStatus s t 0xFFFFFFFF := by
  have hmask : ~~~(0xFFFFFFFF : Word) = 0#32 := by decide
  rw [SameStatus, hmask, BitVec.and_zero, BitVec.and_zero]

theorem State.returned_frame (s : State) (psr pc : Word) : Frame s.openMonitor (s.returned psr pc) pc [] 0xFFFFFFFF :=
  ⟨rfl, fun _ _ => rfl, .all .., ((SameSystem.refl s.openMonitor).setCpsr _).setPc pc, .of_mem_eq rfl⟩

theorem State.setPc_frame (s : State) (pc : Word) : Frame s (s.setPc pc) pc [] 0 :=
  ⟨rfl, fun _ _ => rfl, .of_cpsr_eq rfl 0, (SameSystem.refl s).setPc pc, .of_mem_eq rfl⟩

/-! ## A result to pc (R221) -/

/-- With pc among the registers that the instruction names, the register-shift form stops whatever its own are. -/
theorem checkRegisterShift_pc (op : Operand2) {regs : List RegNum} (h : 15 ∈ regs) :
    checkRegisterShift op regs = unpredictableIf (shiftNamesPc op [15]) .registerShiftPc := by
  cases op with
  | shiftReg r => simp [checkRegisterShift, shiftNamesPc, h]
  | imm _ | shiftImm _ => rfl

/-- The exception return of a data-processing instruction, its stops in their order. -/
theorem jumpReturns_of_exec {i : Instr} {s : State} {op : Operand2} {psr r : Word} (hp : s.spsr? = some psr)
    (hshift : shiftNamesPc op [15] = false) (hexec : exec i s = finish (s.exceptionReturn psr r)) :
    JumpYields i s true op r := by
  rw [State.exceptionReturn_eq] at hexec
  unfold modeField psrValid at hexec
  unfold JumpYields
  rw [hshift, if_neg Bool.false_ne_true, if_neg Bool.noConfusion, hp]
  dsimp only
  split
  next h => rw [hexec, if_pos h]; rfl
  next h =>
    rw [if_neg h] at hexec
    split
    next h => rw [hexec, if_pos h]; rfl
    next h =>
      rw [if_neg h] at hexec
      split
      next h => rw [if_pos h] at hexec; exact ⟨_, hexec, rfl, s.returned_frame ..⟩
      next h =>
        rw [if_neg h] at hexec
        split
        next h => rw [if_pos h] at hexec; exact ⟨_, hexec, rfl, s.returned_frame ..⟩
        next h => rw [hexec, if_neg h]; rfl

theorem jumpYields_of_exec {i : Instr} {s : State} {sf : Bool} {op : Operand2} {regs : List RegNum} {r result : Word}
    {flags : State → State} (ht : s.thumb = false) (h15 : 15 ∈ regs)
    (hexec : exec i s = finish (checkRegisterShift op regs >>= fun _ => s.dpWrite 15 sf result flags))
    (hr : result = r) : JumpYields i s sf op r := by
  subst hr
  rw [checkRegisterShift_pc op h15] at hexec
  cases hshift : shiftNamesPc op [15] with
  | true =>
    unfold JumpYields
    rw [hshift] at hexec ⊢
    exact hexec
  | false =>
    have hexec : exec i s = finish (s.dpWrite 15 sf result flags) := by rw [hexec, hshift]; rfl
    rw [State.dpWrite, if_pos rfl] at hexec
    cases sf with
    | false =>
      have hexec : exec i s = finish (s.branchTo result) := hexec
      unfold JumpYields
      rw [hshift, if_neg Bool.false_ne_true, if_pos rfl]
      split
      next ha => exact ⟨_, hexec.trans (by rw [State.branchTo_arm ht ha, finish_ok]), s.setPc_frame result⟩
      next ha => rw [hexec, State.branchTo_unaligned ht ha, finish_unpredictable]
    | true =>
      cases hp : s.spsr? with
      | none =>
        unfold JumpYields
        rw [hshift, hp]
        exact hexec.trans (by rw [if_pos rfl, State.needSpsr, hp]; rfl)
      | some psr => exact jumpReturns_of_exec hp hshift (hexec.trans (by rw [if_pos rfl, State.needSpsr, hp]; rfl))

/-- Settles O22: each operation is its result, then the one way to write pc. -/
theorem writingPcJumpsOrReturns : Obligations.WritingPcJumpsOrReturns := by
  intro c sf rn op s hc ht a b cin
  have two : (15 : RegNum) ∈ [rn, 15] := by simp
  have one : (15 : RegNum) ∈ [(15 : RegNum)] := by simp
  have sum := addWithCarry_sum
  have dif := fun x y c => (addWithCarry_sum x (~~~y) c).trans (add_not_add_bitWord x y c)
  have rev := fun x y c => (congrArg (· + bitWord c) (BitVec.add_comm (~~~x) y)).trans (add_not_add_bitWord y x c)
  refine ⟨?and, ?bic, ?eor, ?orr, ?mov, ?mvn, ?add, ?sub, ?rsb, ?adc, ?sbc, ?rsc⟩
  case and | bic | eor | orr => exact jumpYields_of_exec ht two (exec_of_passed hc rfl) rfl
  case mov | mvn => exact jumpYields_of_exec ht one (exec_of_passed hc rfl) rfl
  case add => exact jumpYields_of_exec ht two (exec_of_passed hc rfl) ((sum a b false).trans (BitVec.add_zero _))
  case adc => exact jumpYields_of_exec ht two (exec_of_passed hc rfl) (sum a b cin)
  case sub => exact jumpYields_of_exec ht two (exec_of_passed hc rfl) ((dif a b true).trans (BitVec.sub_zero _))
  case sbc => exact jumpYields_of_exec ht two (exec_of_passed hc rfl) (dif a b cin)
  case rsb =>
    exact jumpYields_of_exec ht two (exec_of_passed hc rfl) ((sum ..).trans ((rev a b true).trans (BitVec.sub_zero _)))
  case rsc => exact jumpYields_of_exec ht two (exec_of_passed hc rfl) ((sum ..).trans (rev a b cin))

end Sys2Proof.Machine
end

section
/-! Proofs. Transfers of words in a row: their reads, their writes, their tests, and the lists of registers. -/

namespace Sys2Proof.Machine

/-! ## The addresses of words in a row (R108, R91) -/

theorem wordBase_add_four (a : Word) : wordBase (a + 4) = wordBase a + 4 := by
  refine BitVec.eq_of_toNat_eq ?_
  have h4 : BitVec.toNat (4 : Word) = 4 := rfl
  rw [toNat_wordBase, BitVec.toNat_add, BitVec.toNat_add, toNat_wordBase, h4]
  omega

/-- Word `j` of the rest is word `j + 1`. -/
theorem wordBase_add_four_add (a : Word) (j : Nat) :
    wordBase (a + 4) + BitVec.ofNat 32 (4 * j) = wordBase a + BitVec.ofNat 32 (4 * (j + 1)) := by
  have h4 : (4 : Word) = BitVec.ofNat 32 4 := rfl
  rw [wordBase_add_four, h4, add_ofNat_add_ofNat, Nat.mul_succ, Nat.add_comm 4]

theorem State.blockWord_eq (s : State) (start : Word) (j : Nat) :
    s.blockWord start j = s.dataWord (wordBase start + BitVec.ofNat 32 (4 * j)) := rfl

theorem State.blockWord_add_four (s : State) (start : Word) (j : Nat) :
    s.blockWord (start + 4) j = s.blockWord start (j + 1) := by
  rw [State.blockWord_eq, wordBase_add_four_add]; rfl

/-- A row of words that does not cross the top is a first word and a rest that do not. -/
theorem crossesTop_succ {start : Word} {n : Nat} (h : crossesTop (wordBase start) (4 * (n + 1)) = false) :
    crossesTop (wordBase start) 4 = false ∧ crossesTop (wordBase (start + 4)) (4 * n) = false := by
  have h4 : BitVec.toNat (4 : Word) = 4 := rfl
  rw [crossesTop_eq_false_iff] at h ⊢
  rw [crossesTop_eq_false_iff, wordBase_add_four, BitVec.toNat_add, h4]
  omega

/-- The access to word `j` from `start` up aborts (R96). -/
def State.wordAborts (s : State) (start : Word) (kind : AccessKind) (j : Nat) : Bool :=
  s.extAbort (wordBase start + BitVec.ofNat 32 (4 * j)) 4 kind s.privileged

theorem State.wordAborts_zero (s : State) (start : Word) (kind : AccessKind) :
    s.wordAborts start kind 0 = s.extAbort (wordBase start) 4 kind s.privileged := by
  rw [State.wordAborts, Nat.mul_zero, BitVec.add_zero]

theorem State.wordAborts_add_four (s : State) (start : Word) (kind : AccessKind) (j : Nat) :
    s.wordAborts (start + 4) kind j = s.wordAborts start kind (j + 1) := by
  rw [State.wordAborts, wordBase_add_four_add]; rfl

/-! ## Reads (R108, R116) -/

theorem State.readWords_eq {s : State} {start : Word} {n : Nat}
    (hw : crossesTop (wordBase start) (4 * n) = false) (hok : ∀ j < n, s.wordAborts start .read j = false) :
    s.readWords start n = .ok ((List.range n).map (s.blockWord start)) := by
  induction n generalizing start with
  | zero => rfl
  | succ n ih =>
    obtain ⟨hw0, hw1⟩ := crossesTop_succ hw
    have h0 := hok 0 (by omega)
    rw [State.wordAborts_zero] at h0
    have hrest := ih hw1 fun j hj => (s.wordAborts_add_four ..).trans (hok (j + 1) (by omega))
    rw [State.readWords, State.memRead_word hw0 h0, hrest, List.range_succ_eq_map, List.map_cons, List.map_map]
    have hfirst : s.blockWord start 0 = s.dataWord (wordBase start) := by
      rw [State.blockWord_eq, Nat.mul_zero, BitVec.add_zero]
    have hmap : s.blockWord (start + 4) = s.blockWord start ∘ Nat.succ := funext (s.blockWord_add_four start)
    rw [hfirst, hmap]; rfl

/-- The first access that aborts ends the reads with nothing changed (R98). -/
theorem State.readWords_abort {s : State} {start : Word} {n k : Nat}
    (hw : crossesTop (wordBase start) (4 * n) = false) (hk : k < n)
    (hbelow : ∀ j < k, s.wordAborts start .read j = false) (habort : s.wordAborts start .read k = true) :
    s.readWords start n = raise .dataAbort s := by
  induction n generalizing start k with
  | zero => omega
  | succ n ih =>
    obtain ⟨hw0, hw1⟩ := crossesTop_succ hw
    rw [State.readWords]
    cases k with
    | zero =>
      rw [State.wordAborts_zero] at habort
      rw [State.memRead_abort hw0 habort]; rfl
    | succ k =>
      have h0 := hbelow 0 (by omega)
      rw [State.wordAborts_zero] at h0
      have hrest := ih hw1 (Nat.lt_of_succ_lt_succ hk)
        (fun j hj => (s.wordAborts_add_four ..).trans (hbelow (j + 1) (by omega)))
        ((s.wordAborts_add_four ..).trans habort)
      rw [State.memRead_word hw0 h0, hrest]; rfl

/-! ## Writes (R108, R116) -/

/-- The state with words stored from the word of `start` up. -/
def State.setWords (s : State) (start : Word) (vs : List Word) : State :=
  s.setBytes (wordBase start) (wordBytes s.bigEndian vs)

/-- The first word stored, then the rest. -/
theorem State.setWords_cons (s : State) (start v : Word) (vs : List Word) :
    (s.setBytes (wordBase start) (unpackData s.bigEndian v 4)).setWords (start + 4) vs = s.setWords start (v :: vs) := by
  rw [State.setWords, State.setBytes_bigEndian, wordBase_add_four, State.setBytes_wordBytes_cons]; rfl

theorem State.setBytes_wordAborts (s : State) (a : Word) (bs : List Byte) (start : Word) (kind : AccessKind) (j : Nat) :
    (s.setBytes a bs).wordAborts start kind j = s.wordAborts start kind j := by
  rw [s.setBytes_eq]; rfl

theorem State.writeWords_eq {s : State} {start : Word} {vs : List Word}
    (hw : crossesTop (wordBase start) (4 * vs.length) = false)
    (hok : ∀ j < vs.length, s.wordAborts start .write j = false) :
    s.writeWords start vs = .ok (s.setWords start vs) := by
  induction vs generalizing s start with
  | nil => rfl
  | cons v vs ih =>
    obtain ⟨hw0, hw1⟩ := crossesTop_succ hw
    have h0 := hok 0 (by simp)
    rw [State.wordAborts_zero] at h0
    rw [State.writeWords, State.memWrite_open hw0 h0, ← s.setWords_cons]
    refine ih hw1 fun j hj => ?_
    rw [State.setBytes_wordAborts, State.wordAborts_add_four]
    exact hok (j + 1) (by simpa using hj)

/-- The first access that aborts ends the writes with the words below it stored (R98, R116; log 27). -/
theorem State.writeWords_abort {s : State} {start : Word} {vs : List Word} {k : Nat}
    (hw : crossesTop (wordBase start) (4 * vs.length) = false) (hk : k < vs.length)
    (hbelow : ∀ j < k, s.wordAborts start .write j = false) (habort : s.wordAborts start .write k = true) :
    s.writeWords start vs = raise .dataAbort (s.setWords start (vs.take k)) := by
  induction vs generalizing s start k with
  | nil => cases hk
  | cons v vs ih =>
    obtain ⟨hw0, hw1⟩ := crossesTop_succ hw
    rw [State.writeWords]
    cases k with
    | zero =>
      rw [State.wordAborts_zero] at habort
      rw [State.memWrite_abort hw0 habort]; rfl
    | succ k =>
      have h0 := hbelow 0 (by omega)
      rw [State.wordAborts_zero] at h0
      rw [State.memWrite_open hw0 h0, List.take_succ_cons, ← s.setWords_cons]
      refine ih hw1 (Nat.lt_of_succ_lt_succ hk) (fun j hj => ?_) ?_
      · rw [State.setBytes_wordAborts, State.wordAborts_add_four]; exact hbelow (j + 1) (by omega)
      · rw [State.setBytes_wordAborts, State.wordAborts_add_four]; exact habort

/-- A word stored in a row is the word read back. -/
theorem State.blockWord_setWords (s : State) {start : Word} {vs : List Word}
    (hw : crossesTop (wordBase start) (4 * vs.length) = false) {j : Nat} (hj : j < vs.length) :
    (s.setWords start vs).blockWord start j = vs[j] := by
  rw [crossesTop_eq_false_iff] at hw
  exact s.dataWord_storedWords (wordBase start) vs (by omega) hj

theorem State.sameMemoryBut_setWords (s : State) (start : Word) (vs : List Word) :
    SameMemoryBut s (s.setWords start vs) (wordBase start) (4 * vs.length) := by
  have h := s.sameMemoryBut_setBytes (wordBase start) (wordBytes s.bigEndian vs)
  rwa [length_wordBytes] at h

/-- The first `k` words stored touch `k` words of memory. -/
theorem State.sameMemoryBut_take (s : State) (start : Word) {vs : List Word} {k : Nat} (hk : k ≤ vs.length) :
    SameMemoryBut s { s with mem := (s.setWords start (vs.take k)).mem } (wordBase start) (4 * k) := by
  have h := s.sameMemoryBut_setWords start (vs.take k)
  rw [List.length_take, Nat.min_eq_left hk] at h
  exact h.of_mem_eq rfl

theorem State.setWords_eq (s : State) (start : Word) (vs : List Word) :
    s.setWords start vs = { s with mem := (s.setWords start vs).mem } := s.setBytes_eq ..

/-- The count of free values has no part in a store. -/
theorem State.setBytes_withCount (s : State) (f : Nat) (a : Word) (bs : List Byte) :
    State.setBytes { s with freeCount := f } a bs = { s.setBytes a bs with freeCount := f } := by
  induction bs generalizing s a with
  | nil => rfl
  | cons b bs ih => exact ih (s.setByte a b) (a + 1)

theorem State.setWords_withCount (s : State) (f : Nat) (start : Word) (vs : List Word) :
    State.setWords { s with freeCount := f } start vs = { s.setWords start vs with freeCount := f } :=
  s.setBytes_withCount ..

/-! ## How a transfer of words ends (R91, R98, R108) -/

theorem State.checkBlock_eq (s : State) (start : Word) (n : Nat) : s.checkBlock start n =
    if !wordAligned start && (s.aBit || s.uBit) then raise .dataAbort s
    else if crossesTop (wordBase start) (4 * n) then unpredictable .addressWrap else .ok () := by
  rw [State.checkBlock, State.checkMultiple, checkWrap]
  split <;> rfl

section
variable {i : Instr} {s : State} {start : Word} {n : Nat} {ok : Prop}

theorem blockYields_of_exec {kind : AccessKind} {rest : Res State}
    (hexec : exec i s = finish (s.checkBlock start n >>= fun _ => rest))
    (hrest : crossesTop (wordBase start) (4 * n) = false → exec i s = finish rest →
      ((∀ j < n, s.wordAborts start kind j = false) → ok) ∧
      ∀ k < n, (∀ j < k, s.wordAborts start kind j = false) → s.wordAborts start kind k = true →
        AbortsAt i s kind (wordBase start) k) : BlockYields start n kind i s ok := by
  rw [State.checkBlock_eq] at hexec
  unfold wordBase at hexec
  unfold BlockYields
  split
  next h =>
    rw [if_pos (by simpa [wordAligned] using h)] at hexec; exact hexec
  next h =>
    rw [if_neg (by simpa [wordAligned] using h)] at hexec
    dsimp only
    split
    next hw => rw [if_pos hw] at hexec; exact hexec
    next hw =>
      rw [if_neg hw] at hexec
      exact hrest (Bool.not_eq_true _ ▸ hw) hexec

/-- A transfer that reads its words before it does anything else. -/
theorem blockYields_of_read {k : List Word → Res State}
    (hexec : exec i s = finish (s.checkBlock start n >>= fun _ => s.readWords start n >>= k))
    (hok : exec i s = finish (k ((List.range n).map (s.blockWord start))) → ok) :
    BlockYields start n .read i s ok := by
  refine blockYields_of_exec hexec fun hw he => ⟨fun hopen => ?_, fun k hk hbelow habort => ?_⟩
  · rw [State.readWords_eq hw hopen] at he
    exact hok he
  · rw [State.readWords_abort hw hk hbelow habort] at he
    exact he

/-- What an aborted transfer of words leaves: the words below the aborted one, stored (R98; log 27). -/
theorem exec_of_aborted_writes {f : Nat} {vs : List Word} {k : State → Res State} {m : Nat}
    (hw : crossesTop (wordBase start) (4 * vs.length) = false) (hm : m < vs.length)
    (hbelow : ∀ j < m, s.wordAborts start .write j = false) (habort : s.wordAborts start .write m = true)
    (hexec : exec i s = finish (State.writeWords { s with freeCount := f } start vs >>= k)) :
    exec i s = .next (enter .dataAbort
      { s with mem := (s.setWords start (vs.take m)).mem, freeCount := f }) := by
  rw [State.writeWords_abort (s := { s with freeCount := f }) hw hm hbelow habort, State.setWords_withCount,
    State.setWords_eq] at hexec
  exact hexec

/-- A transfer that stores its words, from a state whose count of free values may have advanced. -/
theorem blockYields_of_write {f : Nat} {vs : List Word} {k : State → Res State} (hlen : vs.length = n)
    (hexec : exec i s = finish (s.checkBlock start n >>= fun _ =>
      State.writeWords { s with freeCount := f } start vs >>= k))
    (hok : crossesTop (wordBase start) (4 * vs.length) = false →
      exec i s = finish (k (State.setWords { s with freeCount := f } start vs)) → ok) :
    BlockYields start n .write i s ok := by
  subst hlen
  refine blockYields_of_exec hexec fun hw he => ⟨fun hopen => ?_, fun m hm hbelow habort => ?_⟩
  · rw [State.writeWords_eq (s := { s with freeCount := f }) hw hopen] at he
    exact hok hw he
  · exact ⟨_, f, exec_of_aborted_writes hw hm hbelow habort he, s.sameMemoryBut_take start hm.le⟩

end

/-! ## Register lists (R370) -/

theorem mem_regList (list : BitVec 16) (r : RegNum) : r ∈ regList list ↔ list.getLsbD r.val = true := by
  simp [regList]

theorem regList_pairwise (list : BitVec 16) : (regList list).Pairwise (fun a b => a < b) :=
  (List.pairwise_lt_finRange 16).filter _

theorem regList_nodup (list : BitVec 16) : (regList list).Nodup := (List.nodup_finRange 16).filter _

theorem contains_regList (list : BitVec 16) (r : RegNum) : (regList list).contains r = list.getLsbD r.val := by
  rw [Bool.eq_iff_iff, List.contains_iff_mem, mem_regList]

theorem regList_ne_nil {list : BitVec 16} (h : list ≠ 0) : regList list ≠ [] := by
  intro hnil
  refine h (BitVec.eq_of_getLsbD_eq fun j hj => ?_)
  have hmem := mem_regList list ⟨j, hj⟩
  rw [hnil] at hmem
  simpa using hmem

/-- The restrictions on the list and the base, in their order (R372, R377). -/
theorem checkList_eq (list : BitVec 16) (rn : RegNum) : checkList list rn =
    if list = 0 then unpredictable .emptyList else if rn = 15 then unpredictable .multipleBasePc else .ok () := by
  unfold checkList
  by_cases h : list = 0
  · subst h; rfl
  · rw [if_neg h, beq_false_of_ne h]
    by_cases h' : rn = 15
    · subst h'; rfl
    · rw [if_neg h', beq_false_of_ne h']; rfl

/-! ## The registers of a list written (R372) -/

theorem State.setRegs_cpsr (s : State) (m : Option Mode) (rs : List RegNum) (vs : List Word) :
    (s.setRegs m rs vs).cpsr = s.cpsr := by rw [s.setRegs_only_regs]

theorem State.setRegs_pc (s : State) (m : Option Mode) (rs : List RegNum) (vs : List Word) :
    (s.setRegs m rs vs).pc = s.pc := by rw [s.setRegs_only_regs]

theorem State.setRegs_mem (s : State) (m : Option Mode) (rs : List RegNum) (vs : List Word) :
    (s.setRegs m rs vs).mem = s.mem := by rw [s.setRegs_only_regs]

/-- A register outside the list keeps its value. -/
theorem State.regIn_setRegs_of_not_mem (s : State) (m : Option Mode) {rs : List RegNum} (vs : List Word) {r : RegNum}
    (h : r ∉ rs) : (s.setRegs m rs vs).regIn m r = s.regIn m r := by
  induction rs generalizing s vs with
  | nil => rfl
  | cons q rs ih =>
    cases vs with
    | nil => rfl
    | cons v vs =>
      simp only [List.mem_cons, not_or] at h
      rw [State.setRegs, ih _ _ h.2, State.regIn_setRegIn_ne _ _ _ _ _ (Ne.symm h.1)]

/-- Each register of the list holds its word. -/
theorem State.regIn_setRegs (s : State) (m : Option Mode) {rs : List RegNum} {vs : List Word} (hnd : rs.Nodup)
    {j : Nat} {r : RegNum} {v : Word} (hr : rs[j]? = some r) (hv : vs[j]? = some v) (h15 : r ≠ 15) :
    (s.setRegs m rs vs).regIn m r = v := by
  induction rs generalizing s vs j with
  | nil => cases hr
  | cons q rs ih =>
    cases vs with
    | nil => cases hv
    | cons w vs =>
      obtain ⟨hq, hnd⟩ := List.nodup_cons.mp hnd
      cases j with
      | zero =>
        cases hr; cases hv
        rw [State.setRegs, State.regIn_setRegs_of_not_mem _ _ _ hq, State.regIn_setRegIn_self _ _ _ _ h15]
      | succ j => exact ih _ hnd hr hv

/-- The words of a block, as a load multiple reads them. -/
def State.blockWords (s : State) (start : Word) (n : Nat) : List Word := (List.range n).map (s.blockWord start)

theorem State.blockWords_getElem? (s : State) (start : Word) {n j : Nat} (hj : j < n) :
    (s.blockWords start n)[j]? = some (s.blockWord start j) := by simp [State.blockWords, hj]

theorem State.blockWords_last (s : State) (start : Word) {n : Nat} (hn : n ≠ 0) :
    (s.blockWords start n).getLastD 0 = s.blockWord start (n - 1) := by
  obtain ⟨m, rfl⟩ := Nat.exists_eq_succ_of_ne_zero hn
  simp [State.blockWords, List.range_succ]

/-- A list loaded holds the words of its block, in every later state with the same registers. -/
theorem listLoaded_setRegs (s u : State) {t : State} (m : Option Mode) (list : BitVec 16) (start : Word)
    (ht : t.regs = (u.setRegs m (regList list) (s.blockWords start (regList list).length)).regs) :
    ListLoaded s t m list start := by
  intro j r hr h15
  have hj : j < (regList list).length := (List.getElem?_eq_some_iff.mp hr).1
  rw [State.regIn_congr ht m h15]
  exact u.regIn_setRegs m (regList_nodup list) hr (s.blockWords_getElem? start hj) h15

/-! ## A state whose registers alone have changed -/

/-- `u` is `s` with the current mode's copies of `dests` written. -/
structure RegsWritten (s u : State) (dests : List RegNum) : Prop where
  regs : SameRegs s u dests
  cpsr : u.cpsr = s.cpsr
  system : SameSystem s u
  mem : u.mem = s.mem

section
variable {s u : State} {dests : List RegNum} (h : RegsWritten s u dests)
include h

theorem RegsWritten.setPc_frame (next : Word) : Frame s (u.setPc next) next dests 0 :=
  ⟨rfl, h.regs, .of_cpsr_eq h.cpsr 0, h.system.setPc next, .of_mem_eq h.mem⟩

theorem RegsWritten.returned_frame (psr next : Word) :
    Frame s.openMonitor (u.returned psr next) next dests 0xFFFFFFFF :=
  ⟨rfl, h.regs, .all .., (h.system.openMonitor.setCpsr _).setPc next, .of_mem_eq h.mem⟩

end

/-- A bit above the mode field is no part of it. -/
theorem modeField_setBit (w : Word) {i : Nat} (b : Bool) (hi : 5 ≤ i) (hi' : i < 32) :
    modeField (setBit w i b) = modeField w := by
  refine BitVec.eq_of_getLsbD_eq fun j hj => ?_
  rw [modeField, modeField, BitVec.getLsbD_extractLsb', BitVec.getLsbD_extractLsb',
    setBit_getLsbD _ _ _ _ hi' (by omega), if_neg (by omega)]

/-- An exchange writes T and no other bit. -/
theorem sameStatus_setT {s t : State} {b : Bool} (h : t.cpsr = setBit s.cpsr 5 b) : SameStatus s t 0x20 := by
  have hmask : ∀ j < 32, (0x20 : Word).getLsbD j = decide (j = 5) := by decide
  rw [SameStatus, h]
  refine BitVec.eq_of_getLsbD_eq fun j hj => ?_
  rw [BitVec.getLsbD_and, BitVec.getLsbD_and, BitVec.getLsbD_not, hmask j hj, setBit_getLsbD _ _ _ _ (by decide) hj]
  by_cases h5 : j = 5 <;> simp [h5]

/-- The state after an exchange to an address (R24). -/
def State.exchanged (s : State) (a : Word) : State :=
  (s.setCpsr (setBit s.cpsr 5 (a.getLsbD 0))).setPc (a &&& 0xFFFFFFFE)

theorem State.exchanged_thumb (s : State) (a : Word) : (s.exchanged a).thumb = a.getLsbD 0 :=
  (setBit_getLsbD _ _ _ _ (by decide) (by decide)).trans (if_pos rfl)

theorem State.exchanged_mode? (s : State) (a : Word) : (s.exchanged a).mode? = s.mode? :=
  congrArg Mode.ofBits (modeField_setBit s.cpsr _ (by decide) (by decide))

theorem RegsWritten.exchanged_frame {s u : State} {dests : List RegNum} (h : RegsWritten s u dests) (a : Word) :
    Frame s (u.exchanged a) (a &&& 0xFFFFFFFE) dests 0x20 :=
  ⟨rfl, h.regs, sameStatus_setT (congrArg (setBit · 5 (a.getLsbD 0)) h.cpsr), (h.system.setCpsr _).setPc _,
    .of_mem_eq h.mem⟩

/-- A load to pc: an exchange, or its stop (R24, R331). -/
theorem exchangeYields_of_exec {i : Instr} {s u : State} {a : Word} {post : State → Prop}
    (hexec : exec i s = finish (u.loadWritePc a)) (hpost : post (u.exchanged a)) :
    YieldsUnless (decide (a &&& 3 = 2)) .exchangeUnaligned i s post := by
  rw [State.loadWritePc] at hexec
  unfold YieldsUnless
  by_cases h : a &&& 3 = 2
  · rw [decide_eq_true h, if_pos rfl, hexec, State.bxWritePc_unpredictable h, finish_unpredictable]
  · rw [decide_eq_false h, if_neg Bool.false_ne_true]
    rw [State.bxWritePc_eq h] at hexec
    exact ⟨_, hexec, hpost⟩

theorem listedMode_eq (b : BitVec 5) : listedMode b = (Mode.ofBits b).isSome := by revert b; decide

/-- An exception return from a state whose registers alone have changed (R675). -/
theorem returnYields_of_exec {i : Instr} {s u : State} {psr target : Word} {dests : List RegNum} {post : State → Prop}
    (hexec : exec i s = finish (u.exceptionReturn psr target)) (hu : RegsWritten s u dests)
    (hpost : ∀ pc, post (u.returned psr pc)) : ReturnYields i s psr target dests post := by
  rw [State.exceptionReturn_eq] at hexec
  unfold modeField psrValid at hexec
  unfold ReturnYields
  dsimp only
  rw [listedMode_eq]
  split
  next h => rw [hexec, if_pos (by simpa using h)]; rfl
  next h =>
    rw [if_neg (by simpa using h)] at hexec
    split
    next h => rw [hexec, if_pos h]; rfl
    next h =>
      rw [if_neg h] at hexec
      cases ht : (psr &&& 0xF90F03FF).getLsbD 5 with
      | true =>
        rw [if_pos ht] at hexec
        rw [if_neg (by simp), if_pos rfl]
        exact ⟨_, hexec, rfl, hpost _, hu.returned_frame ..⟩
      | false =>
        rw [if_neg (by rw [ht]; decide)] at hexec
        rw [if_neg Bool.false_ne_true]
        split
        next ha => rw [hexec, if_neg ha.2]; rfl
        next ha =>
          rw [if_pos (by simpa using ha)] at hexec
          exact ⟨_, hexec, rfl, hpost _, hu.returned_frame ..⟩

end Sys2Proof.Machine
end

section
/-! Proofs. LDM in its three forms, and RFE and SRS: O49, O50, O52. -/

namespace Sys2Proof.Machine

/-! ## The block of a list (R371) -/

/-- The base that `!` writes back. -/
def listBase (w : Bool) (v : Word) : Option Word := if w then some v else none

theorem baseDest_listBase (w : Bool) (rn : RegNum) (v : Word) : baseDest rn (listBase w v) = blockDest w rn := by
  cases w <;> rfl

theorem listBase_eq_some {w : Bool} (v : Word) (h : w = true) : listBase w v = some v := if_pos h

theorem blockStart_eq (p u : Bool) (base : Word) (n : Nat) : blockStart p u base n = (blockAddresses p u base n).1 := by
  cases p <;> cases u <;> rfl

theorem blockBase_eq (p u : Bool) (base : Word) (n : Nat) : blockBase u base n = (blockAddresses p u base n).2 := by
  cases p <;> cases u <;> rfl

theorem State.writeBlockBase_eq (s : State) (w p u : Bool) (rn : RegNum) (base : Word) (n : Nat) :
    s.writeBlockBase w u rn base n = s.setBase rn (listBase w (blockAddresses p u base n).2) := by
  rw [State.writeBlockBase, blockBase_eq p]
  cases w <;> rfl

/-- A load multiple ends as its block of reads does. -/
theorem blockYields_of_load {i : Instr} {s : State} {p u : Bool} {rn : RegNum} {n : Nat} {ok : Prop}
    {k : List Word → Res State} (hexec : exec i s = finish (s.loadBlock p u rn n >>= k))
    (hok : exec i s = finish (k (s.blockWords (blockAddresses p u (s.reg rn) n).1 n)) → ok) :
    BlockYields (blockAddresses p u (s.reg rn) n).1 n .read i s ok := by
  rw [State.loadBlock, blockStart_eq] at hexec
  exact blockYields_of_read (hexec.trans (congrArg finish (bind_assoc ..))) hok

section
variable {s : State} {rn : RegNum} {wb : Option Word} {rs : List RegNum} {vs : List Word}

/-- The base and the registers of a list written. -/
theorem regsWritten_list : RegsWritten s ((s.setBase rn wb).setRegs s.mode? rs vs) (rs ++ baseDest rn wb) where
  regs := ((SameRegs.refl s _).setBase rfl fun _ h => List.mem_append_right _ h).setRegs vs
    fun _ h => List.mem_append_left _ h
  cpsr := (State.setRegs_cpsr ..).trans (s.setBase_cpsr rn wb)
  system := ((SameSystem.refl s).setBase).setRegs ..
  mem := (State.setRegs_mem ..).trans (s.setBase_mem rn wb)

/-- The base keeps its new address where it is not in the list. -/
theorem regIn_base_of_list {v : Word} (hwb : wb = some v) (h15 : rn ≠ 15) (hrn : rn ∉ rs) :
    ((s.setBase rn wb).setRegs s.mode? rs vs).regIn s.mode? rn = v := by
  subst hwb
  rw [State.regIn_setRegs_of_not_mem _ _ _ hrn]
  exact s.regIn_setRegIn_self s.mode? rn v h15

end

/-- The state after a load multiple, less its pc: the base, then the registers of the list. -/
def State.afterList (s : State) (w : Bool) (rn : RegNum) (newBase : Word) (list : BitVec 16) (start : Word) : State :=
  (s.setBase rn (listBase w newBase)).setRegs s.mode? (regList list) (s.blockWords start (regList list).length)

section
variable {s : State} {w : Bool} {rn : RegNum} {newBase start : Word} {list : BitVec 16}

theorem regsWritten_afterList :
    RegsWritten s (s.afterList w rn newBase list start) (regList list ++ blockDest w rn) := by
  rw [← baseDest_listBase w rn newBase]; exact regsWritten_list

theorem listLoaded_afterList {t : State} (ht : t.regs = (s.afterList w rn newBase list start).regs) :
    ListLoaded s t s.mode? list start := listLoaded_setRegs s _ _ list start ht

theorem afterList_advance {len : Nat} (hpc : s.pc.toNat + len < 2 ^ 32) :
    (s.afterList w rn newBase list start).advance len =
      .ok ((s.afterList w rn newBase list start).setPc (s.pc + BitVec.ofNat 32 len)) := by
  have hsame : (s.afterList w rn newBase list start).pc = s.pc :=
    (State.setRegs_pc ..).trans (s.setBase_pc rn _)
  rw [State.advance_eq (by rwa [hsame]), hsame]

/-- The base holds its new address, seen from the mode of the transfer. -/
theorem regIn_base_afterList {t : State} (ht : t.regs = (s.afterList w rn newBase list start).regs) (h15 : rn ≠ 15)
    (hbase : (w && list.getLsbD rn.val) = false) (hw : w = true) : t.regIn s.mode? rn = newBase := by
  have hrn : rn ∉ regList list := by
    rw [mem_regList]; simpa [hw] using hbase
  rw [State.regIn_congr ht _ h15]
  exact regIn_base_of_list (listBase_eq_some _ hw) h15 hrn

end

/-! ## LDM (R372, R373) -/

/-- The end of LDM: the exchange to the last word where pc is in the list, the next instruction otherwise. -/
theorem ldm_ends {i : Instr} {s : State} {w : Bool} {rn : RegNum} {newBase start : Word} {list : BitVec 16}
    (hpc : s.pc.toNat + 4 < 2 ^ 32) (hlist : list ≠ 0) (h15 : rn ≠ 15) (hbase : (w && list.getLsbD rn.val) = false)
    (hexec : exec i s = finish (if list.getLsbD 15 then
      (s.afterList w rn newBase list start).loadWritePc ((s.blockWords start (regList list).length).getLastD 0)
      else (s.afterList w rn newBase list start).advance 4)) :
    let last := s.blockWord start ((regList list).length - 1)
    let dests := regList list ++ blockDest w rn
    if list.getLsbD 15 then YieldsUnless (decide (last &&& 3 = 2)) .exchangeUnaligned i s fun t =>
      t.thumb = last.getLsbD 0 ∧ ListLoaded s t s.mode? list start ∧ (w = true → t.reg rn = newBase) ∧
      Frame s t (last &&& 0xFFFFFFFE) dests 0x20
    else Yields i s fun t => ListLoaded s t s.mode? list start ∧ (w = true → t.reg rn = newBase) ∧
      Frame s t (s.pc + 4) dests 0 := by
  have hwritten := regsWritten_afterList (s := s) (w := w) (rn := rn) (newBase := newBase) (list := list) (start := start)
  have hmode := State.mode?_congr hwritten.cpsr
  have hn : (regList list).length ≠ 0 := mt List.length_eq_zero_iff.mp (regList_ne_nil hlist)
  rw [s.blockWords_last start hn] at hexec
  intro last dests
  split
  next h =>
    rw [if_pos h] at hexec
    refine exchangeYields_of_exec hexec ⟨State.exchanged_thumb .., listLoaded_afterList rfl, fun hw => ?_,
      hwritten.exchanged_frame last⟩
    rw [State.reg, State.exchanged_mode?, hmode]
    exact regIn_base_afterList rfl h15 hbase hw
  next h =>
    rw [if_neg h, afterList_advance hpc] at hexec
    refine ⟨_, hexec, listLoaded_afterList rfl, fun hw => ?_, hwritten.setPc_frame _⟩
    exact (congrArg (State.regIn _ · rn) hmode).trans (regIn_base_afterList rfl h15 hbase hw)

/-- LDM whose registers break no restriction. -/
theorem exec_ldm {c : Cond} {s : State} (hc : s.passed c = true) (p u : Bool) {w : Bool} {rn : RegNum}
    {list : BitVec 16} (hlist : list ≠ 0) (h15 : rn ≠ 15) (hbase : (w && list.getLsbD rn.val) = false) :
    exec (.ldm c p u w rn list) s = finish (s.loadBlock p u rn (regList list).length >>= fun vs =>
      let t := (s.setBase rn (listBase w (blockAddresses p u (s.reg rn) (regList list).length).2)).setRegs s.mode?
        (regList list) vs
      if list.getLsbD 15 then t.loadWritePc (vs.getLastD 0) else t.advance 4) := by
  have hexec : exec (.ldm c p u w rn list) s = _ := exec_of_passed hc rfl
  rw [checkList_eq, if_neg hlist, if_neg h15] at hexec
  simp only [contains_regList, s.writeBlockBase_eq w p, hbase] at hexec
  exact hexec

/-- Settles O49: the list is the filtered list of all registers; the checks, the block of reads, then the registers. -/
theorem loadMultipleYields : Obligations.LoadMultipleYields := by
  intro c p u w rn list s ⟨hc, hpc⟩ n x i last dests
  refine ⟨regList_pairwise list, mem_regList list, ?_⟩
  have hexec : exec i s = _ := exec_of_passed hc rfl
  rw [checkList_eq] at hexec
  split
  next h => rw [hexec, if_pos h]; rfl
  next hlist =>
    rw [if_neg hlist] at hexec
    split
    next h => rw [hexec, if_pos h]; rfl
    next h15 =>
      rw [if_neg h15] at hexec
      split
      next h => simp only [contains_regList, h] at hexec; exact hexec
      next hbase =>
        have hbase := eq_false_of_ne_true hbase
        exact blockYields_of_load (exec_ldm hc p u hlist h15 hbase) fun he => ldm_ends hpc hlist h15 hbase he

/-! ## LDM with `^` (R374, R375) -/

theorem State.isNone_spsrIndex? (s : State) : s.spsrIndex?.isNone = s.spsr?.isNone := (Option.isNone_map ..).symm

/-- A list made wider is empty where the list is. -/
theorem setWidth_eq_zero_iff {n : Nat} (h : n ≤ 16) (list : BitVec n) : list.setWidth 16 = 0 ↔ list = 0 := by
  refine ⟨fun hz => ?_, fun hz => by rw [hz]; simp⟩
  have hback := congrArg (BitVec.setWidth n) hz
  rwa [BitVec.setWidth_setWidth_of_le _ h, BitVec.setWidth_eq, BitVec.ofNat_eq_ofNat, BitVec.setWidth_ofNat_of_le h] at hback

theorem one_append_ne_zero (list : BitVec 15) : (1#1 ++ list : BitVec 16) ≠ 0 := by
  intro h
  have hbit := (BitVec.getLsbD_append (x := 1#1) (y := list) (i := 15)).symm.trans (congrArg (BitVec.getLsbD · 15) h)
  cases hbit

/-- The end of LDM of the user bank. -/
theorem ldmUser_ends {i : Instr} {s : State} {list : BitVec 16} {start : Word} (hpc : s.pc.toNat + 4 < 2 ^ 32)
    (hexec : exec i s = finish ((s.setRegs (some .usr) (regList list)
      (s.blockWords start (regList list).length)).advance 4)) :
    Yields i s fun t => ListLoaded s t (some .usr) list start ∧ t.pc = s.pc + 4 ∧ t.cpsr = s.cpsr ∧ SameSystem s t ∧
      SameMemory s t ∧ ∀ k : Fin 30, (∀ r ∈ regList list, bank (some .usr) r ≠ some k) → t.regs[k.val] = s.regs[k.val] := by
  have hsame := s.setRegs_pc (some .usr) (regList list) (s.blockWords start (regList list).length)
  rw [State.advance_eq (by rwa [hsame]), hsame] at hexec
  exact ⟨_, hexec, listLoaded_setRegs s s _ list start rfl, rfl, State.setRegs_cpsr ..,
    ((SameSystem.refl s).setRegs ..).setPc _, .of_mem_eq (State.setRegs_mem ..), fun k hk => s.setRegs_regs_ne _ _ _ k hk⟩

/-- LDM of the user bank whose registers break no restriction, in a mode with an spsr. -/
theorem exec_ldmUser {c : Cond} {s : State} (hc : s.passed c = true) (p u : Bool) {rn : RegNum} {list : BitVec 15}
    (hlist : list ≠ 0) (h15 : rn ≠ 15) (hmode : s.spsrIndex?.isNone = false) :
    exec (.ldmUser c p u false rn list) s = finish (s.loadBlock p u rn (regList (list.setWidth 16)).length >>= fun vs =>
      (s.setRegs (some .usr) (regList (list.setWidth 16)) vs).advance 4) := by
  have hexec : exec (.ldmUser c p u false rn list) s = _ := exec_of_passed hc rfl
  rw [checkList_eq, if_neg (mt (setWidth_eq_zero_iff (by decide) list).mp hlist), if_neg h15, hmode] at hexec
  exact hexec

/-- LDM with pc and `^` whose registers break no restriction, in a mode with an spsr. -/
theorem exec_ldmReturn {c : Cond} {s : State} (hc : s.passed c = true) (p u : Bool) {w : Bool} {rn : RegNum}
    {list : BitVec 15} {psr : Word} (h15 : rn ≠ 15) (hp : s.spsr? = some psr)
    (hbase : (w && (1#1 ++ list : BitVec 16).getLsbD rn.val) = false) :
    let rl : BitVec 16 := 1#1 ++ list
    exec (.ldmReturn c p u w rn list) s = finish (s.loadBlock p u rn (regList rl).length >>= fun vs =>
      ((s.setBase rn (listBase w (blockAddresses p u (s.reg rn) (regList rl).length).2)).setRegs s.mode?
        (regList rl) vs).exceptionReturn psr (vs.getLastD 0)) := by
  have hneed : s.needSpsr = .ok psr := by rw [State.needSpsr, hp]
  have hexec : exec (.ldmReturn c p u w rn list) s = _ := exec_of_passed hc rfl
  simp only [checkList_eq, if_neg (one_append_ne_zero list), if_neg h15, contains_regList, s.writeBlockBase_eq w p,
    s.isNone_spsrIndex?, hp, hneed, hbase] at hexec
  exact hexec

/-- Settles O50: the checks of each, the block of reads, then the user bank or the exception return. -/
theorem loadMultipleUserAndReturnYield : Obligations.LoadMultipleUserAndReturnYield := by
  intro c p u w rn list s ⟨hc, hpc⟩ ul nu xu iu rl nr xr ir
  refine ⟨?user, ?ret⟩
  case user =>
    have hexec : exec iu s = _ := exec_of_passed hc rfl
    rw [checkList_eq] at hexec
    split
    next h => rw [hexec, if_pos ((setWidth_eq_zero_iff (by decide) list).mpr h)]; rfl
    next hlist =>
      rw [if_neg (mt (setWidth_eq_zero_iff (by decide) list).mp hlist)] at hexec
      split
      next h => rw [hexec, if_pos h]; rfl
      next h15 =>
        rw [if_neg h15] at hexec
        split
        next h => rw [hexec, h]; rfl
        next hmode =>
          have hmode := eq_false_of_ne_true hmode
          cases w with
          | true => rw [hexec, hmode]; rfl
          | false => exact blockYields_of_load (exec_ldmUser hc p u hlist h15 hmode) fun he => ldmUser_ends hpc he
  case ret =>
    have hexec : exec ir s = _ := exec_of_passed hc rfl
    rw [checkList_eq, if_neg (one_append_ne_zero list), s.isNone_spsrIndex?] at hexec
    split
    next h => rw [hexec, if_pos h]; rfl
    next h15 =>
      rw [if_neg h15] at hexec
      cases hp : s.spsr? with
      | none => rw [hexec, hp]; rfl
      | some psr =>
        dsimp only
        split
        next h =>
          have h : (w && (1#1 ++ list : BitVec 16).getLsbD rn.val) = true := h
          simp only [hp, contains_regList, h] at hexec; exact hexec
        next hbase =>
          have hbase := eq_false_of_ne_true hbase
          have hn : nr ≠ 0 := mt List.length_eq_zero_iff.mp (regList_ne_nil (one_append_ne_zero list))
          refine blockYields_of_load (exec_ldmReturn hc p u h15 hp hbase) fun he => ?_
          rw [← s.blockWords_last xr.1 hn]
          exact returnYields_of_exec he regsWritten_afterList fun pc =>
            ⟨listLoaded_afterList rfl, fun hw => regIn_base_afterList rfl h15 hbase hw⟩

/-! ## RFE and SRS (R382, R383) -/

theorem State.not_privileged_iff (s : State) : (!s.privileged) = true ↔ modeField s.cpsr = 0x10 := by
  rw [State.privileged, bne, Bool.not_not, beq_iff_eq]

theorem rfe_yields {s : State} (p u w : Bool) (rn : RegNum) :
    let x := blockAddresses p u (s.reg rn) 2
    let rfe := Instr.rfe p u w rn
    if modeField s.cpsr = 0x10 then exec rfe s = .fault .rfeUserMode
    else if rn = 15 then exec rfe s = .fault .multipleBasePc
    else BlockYields x.1 2 .read rfe s
      (ReturnYields rfe s (s.blockWord x.1 1) (s.blockWord x.1 0) (blockDest w rn) fun t =>
        w = true → t.regIn s.mode? rn = x.2) := by
  intro x rfe
  have hexec : exec rfe s = finish (unpredictableIf (!s.privileged) .rfeUserMode >>= fun _ =>
    unpredictableIf (rn == 15) .multipleBasePc >>= fun _ => s.loadBlock p u rn 2 >>= fun vs =>
    (s.writeBlockBase w u rn (s.reg rn) 2).exceptionReturn (vs.getLastD 0) (vs.headD 0)) := rfl
  split
  next h => rw [hexec, (s.not_privileged_iff).mpr h]; rfl
  next hpriv =>
    rw [eq_false_of_ne_true (mt (s.not_privileged_iff).mp hpriv)] at hexec
    split
    next h => rw [hexec, beq_iff_eq.mpr h]; rfl
    next h15 =>
      rw [beq_false_of_ne h15, s.writeBlockBase_eq w p] at hexec
      refine blockYields_of_load hexec fun he => ?_
      rw [← baseDest_listBase w rn x.2]
      have hbase : w = true → (s.setBase rn (listBase w x.2)).regIn s.mode? rn = x.2 := fun hw =>
        regIn_base_of_list (rs := []) (vs := []) (listBase_eq_some _ hw) h15 (by simp)
      exact returnYields_of_exec he (regsWritten_list (rs := []) (vs := [])) fun pc hw => by
        refine (State.regIn_congr ?_ _ h15).trans (hbase hw)
        rfl

/-- The stack pointer of a mode written back where `!` is specified. -/
def State.setStack (s : State) (w : Bool) (m : Mode) (v : Word) : State := if w then s.setRegIn (some m) 13 v else s

section
variable (s : State) (w : Bool) (m : Mode) (v : Word)

theorem State.setStack_pc : (s.setStack w m v).pc = s.pc := by cases w <;> simp [State.setStack]
theorem State.setStack_cpsr : (s.setStack w m v).cpsr = s.cpsr := by cases w <;> simp [State.setStack]
theorem State.setStack_mem : (s.setStack w m v).mem = s.mem := by cases w <;> simp [State.setStack]

theorem SameSystem.setStack {s t : State} (h : SameSystem s t) : SameSystem s (t.setStack w m v) := by
  cases w with
  | false => exact h
  | true => exact h.setRegIn (some m) 13 v

theorem State.setStack_regIn (h : w = true) : (s.setStack w m v).regIn (some m) 13 = v := by
  subst h; exact s.regIn_setRegIn_self (some m) 13 v (by decide)

theorem State.setStack_regs (k : Fin 30) (h : w = true → bank (some m) 13 ≠ some k) :
    (s.setStack w m v).regs[k.val] = s.regs[k.val] := by
  cases w with
  | false => rfl
  | true => exact s.setRegIn_regs_ne _ _ _ k (h rfl)

end

theorem State.blockWord_congr {s t : State} (hm : t.mem = s.mem) (hc : t.cpsr = s.cpsr) (start : Word) (j : Nat) :
    t.blockWord start j = s.blockWord start j := State.dataWord_congr hm hc _

/-- SRS after its tests: the words stored, then the stack pointer of the named mode. -/
theorem srs_ends {i : Instr} {s : State} {w : Bool} {m : Mode} {v start lr psr : Word}
    (hpc : s.pc.toNat + 4 < 2 ^ 32) (hw : crossesTop (wordBase start) (4 * [lr, psr].length) = false)
    (hexec : exec i s = finish (((s.setWords start [lr, psr]).openMonitor.setStack w m v).advance 4)) :
    Yields i s fun t => t.blockWord start 0 = lr ∧ t.blockWord start 1 = psr ∧ t.pc = s.pc + 4 ∧ t.cpsr = s.cpsr ∧
      (w = true → t.regIn (some m) 13 = v) ∧
      (∀ k : Fin 30, (w = true → bank (some m) 13 ≠ some k) → t.regs[k.val] = s.regs[k.val]) ∧
      SameSystem s.openMonitor t ∧ SameMemoryBut s t (start &&& 0xFFFFFFFC) 8 := by
  let stored := s.setWords start [lr, psr]
  have hpc' : (stored.openMonitor.setStack w m v).pc = s.pc := (State.setStack_pc ..).trans (s.setBytes_pc ..)
  have hword := fun j => s.blockWord_setWords hw (j := j)
  have hread := fun j => State.blockWord_congr (s := stored) (t := (stored.openMonitor.setStack w m v).setPc (s.pc + 4))
    (State.setStack_mem ..) (State.setStack_cpsr ..) start j
  rw [State.advance_eq (by rwa [hpc']), hpc'] at hexec
  refine ⟨_, hexec, (hread 0).trans (hword 0 (by simp)), (hread 1).trans (hword 1 (by simp)), rfl,
    (State.setStack_cpsr ..).trans (s.setBytes_cpsr ..), fun h => ?base, fun k hk => ?regs,
    (((SameSystem.refl s).setBytes ..).openMonitor.setStack ..).setPc _,
    (s.sameMemoryBut_setWords start [lr, psr]).of_mem_eq (State.setStack_mem ..)⟩
  case base => exact (State.setPc_regIn _ _ _ _ (by decide)).trans (State.setStack_regIn _ _ _ _ h)
  case regs =>
    refine (State.setStack_regs _ _ _ _ k hk).trans ?_
    exact congrArg (fun regs : Vector Word 30 => regs[k.val]) (s.setBytes_regs ..)

/-- Settles O52: RFE is a block of two reads and an exception return, SRS a block of two writes. -/
theorem returnStateTransfersYield : Obligations.ReturnStateTransfersYield := by
  intro p u w rn mode s hpc x rfe srs
  refine ⟨rfe_yields p u w rn, ?_⟩
  cases hp : s.spsr? with
  | none =>
    change finish (s.needSpsr >>= _) = _
    rw [State.needSpsr, hp]; rfl
  | some psr =>
    have hneed : s.needSpsr = .ok psr := by rw [State.needSpsr, hp]
    have hexec : exec srs s = finish (.ok psr >>= fun psr => _) := congrArg (fun r => finish (r >>= _)) hneed
    cases hm : Mode.ofBits mode with
    | none => simp only [hm] at hexec; exact hexec
    | some m =>
      simp only [hm, blockStart_eq, blockBase_eq p] at hexec
      exact blockYields_of_write (f := s.freeCount) (vs := [s.reg 14, psr]) rfl hexec fun hw he => srs_ends hpc hw he

end Sys2Proof.Machine
end

section
/-! Proofs. STM, and the multiple transfers that abort: O53. -/

namespace Sys2Proof.Machine

/-! ## A block whose tests pass (R108, R91) -/

theorem State.checkBlock_of_passes {s : State} {start : Word} {n : Nat} (hal : s.BlockAligned start)
    (hw : crossesTop (wordBase start) (4 * n) = false) : s.checkBlock start n = .ok () := by
  have halign : (!wordAligned start && (s.aBit || s.uBit)) = false := by
    obtain h | ⟨ha, hu⟩ := hal
    · rw [(wordAligned_iff start).mpr h]; rfl
    · rw [ha, hu, Bool.or_self, Bool.and_false]
  rw [State.checkBlock_eq, if_neg (by rw [halign]; decide), if_neg (by rw [hw]; decide)]

/-- Some access that aborts is enough: the first one ends the reads (R98). -/
theorem State.readWords_abort_of_some {s : State} {start : Word} {n k : Nat}
    (hw : crossesTop (wordBase start) (4 * n) = false) (hk : k < n) (habort : s.wordAborts start .read k = true) :
    s.readWords start n = raise .dataAbort s := by
  have hsome : ∃ j, s.wordAborts start .read j = true := ⟨k, habort⟩
  exact State.readWords_abort hw ((Nat.find_min' hsome habort).trans_lt hk)
    (fun j hj => eq_false_of_ne_true (Nat.find_min hsome hj)) (Nat.find_spec hsome)

section
variable {i : Instr} {s : State} {k : Nat}

/-- A load multiple with an access that aborts enters the data abort from the state before it. -/
theorem exec_of_aborted_load {p u : Bool} {rn : RegNum} {n : Nat} {rest : List Word → Res State}
    (hal : s.BlockAligned (blockAddresses p u (s.reg rn) n).1)
    (hw : crossesTop (wordBase (blockAddresses p u (s.reg rn) n).1) (4 * n) = false) (hk : k < n)
    (habort : s.wordAborts (blockAddresses p u (s.reg rn) n).1 .read k = true)
    (hexec : exec i s = finish (s.loadBlock p u rn n >>= rest)) : exec i s = .next (enter .dataAbort s) := by
  rw [State.loadBlock, blockStart_eq] at hexec
  rw [State.checkBlock_of_passes hal hw, State.readWords_abort_of_some hw hk habort] at hexec
  exact hexec

/-- A store multiple whose access `k` is the first that aborts has stored the words below it, and no others. -/
theorem exec_of_aborted_store {start : Word} {f n : Nat} {vs : List Word} {rest : State → Res State}
    (hlen : vs.length = n) (hal : s.BlockAligned start) (hw : crossesTop (wordBase start) (4 * n) = false) (hk : k < n)
    (hbelow : ∀ j < k, s.wordAborts start .write j = false) (habort : s.wordAborts start .write k = true)
    (hexec : exec i s = finish (s.checkBlock start n >>= fun _ =>
      State.writeWords { s with freeCount := f } start vs >>= rest)) :
    ∃ m f, exec i s = .next (enter .dataAbort { s with mem := m, freeCount := f }) ∧
      SameMemoryBut s { s with mem := m } (wordBase start) (4 * k) ∧
      ∀ j < k, ∀ v, vs[j]? = some v → ({ s with mem := m } : State).blockWord start j = v := by
  subst hlen
  rw [State.checkBlock_of_passes hal hw] at hexec
  have hlen : (vs.take k).length = k := by rw [List.length_take, Nat.min_eq_left hk.le]
  have hshort : crossesTop (wordBase start) (4 * (vs.take k).length) = false := by
    rw [crossesTop_eq_false_iff] at hw ⊢; omega
  refine ⟨_, f, exec_of_aborted_writes hw hk hbelow habort hexec, s.sameMemoryBut_take start hk.le, fun j hj v hv => ?_⟩
  rw [← State.setWords_eq, s.blockWord_setWords hshort (by omega), List.getElem_take]
  exact (List.getElem?_eq_some_iff.mp hv).2

end

/-! ## STM (R377 to R379) -/

/-- The state that STM stores from: one free value drawn where the base is unknown. -/
theorem State.drawn_eq (s : State) (draw : Bool) : (if draw = true then s.drawWord.2 else s) =
    { s with freeCount := if draw = true then s.freeCount + 1 else s.freeCount } := by
  cases draw <;> rfl

/-- The values that STM stores: a free one for a base that is written back and not the lowest (R378). -/
def State.stmValues (s : State) (w : Bool) (rn : RegNum) (rs : List RegNum) : List Word :=
  s.blockValues rn (if baseUnknown w rn rs = true then some s.drawWord.1 else none) rs

/-- The values that STM of the user bank stores. -/
def State.userValues (s : State) (rs : List RegNum) : List Word :=
  rs.map fun r => if r = 15 then s.storeValue r else s.regIn (some .usr) r

theorem State.length_stmValues (s : State) (w : Bool) (rn : RegNum) (rs : List RegNum) :
    (s.stmValues w rn rs).length = rs.length := List.length_map _

theorem State.length_userValues (s : State) (rs : List RegNum) : (s.userValues rs).length = rs.length :=
  List.length_map _

/-- A base that is not written back, or is the lowest register, is known. -/
theorem baseUnknown_eq_false {w : Bool} {rn : RegNum} {rs : List RegNum} (h : w = true → rs[0]? = some rn) :
    baseUnknown w rn rs = false := by
  cases w with
  | false => rfl
  | true =>
    have hhead : rs.head? = some rn := List.head?_eq_getElem?.trans (h rfl)
    rw [baseUnknown, hhead, bne_self_eq_false, Bool.and_false]

/-- Word `j` that STM stores is the value of its register, unless that is an unknown base. -/
theorem State.stmValues_getElem? {s : State} {w : Bool} {rn r : RegNum} {rs : List RegNum} {j : Nat}
    (hr : rs[j]? = some r) (hfirst : w = true ∧ r = rn → j = 0) : (s.stmValues w rn rs)[j]? = some (s.stored r) := by
  rw [State.stmValues, State.blockValues, List.getElem?_map, hr, Option.map_some, s.storeValue_eq]
  by_cases hrn : r = rn
  · have hknown : baseUnknown w rn rs = false := baseUnknown_eq_false fun hw => by
      rw [← hrn, ← hr, hfirst ⟨hw, hrn⟩]
    rw [if_pos (beq_iff_eq.mpr hrn), hknown]; rfl
  · rw [if_neg (mt beq_iff_eq.mp hrn)]

theorem State.userValues_getElem? {s : State} {r : RegNum} {rs : List RegNum} {j : Nat} (hr : rs[j]? = some r) :
    (s.userValues rs)[j]? = some (if r = 15 then s.stored 15 else s.regIn (some .usr) r) := by
  rw [State.userValues, List.getElem?_map, hr, Option.map_some, s.storeValue_eq]
  by_cases h : r = 15
  · rw [if_pos h, if_pos h, h]
  · rw [if_neg h, if_neg h]

/-- STM whose registers break no restriction. -/
theorem exec_stm {c : Cond} {s : State} (hc : s.passed c = true) (p u w : Bool) {rn : RegNum} {list : BitVec 16}
    (hlist : list ≠ 0) (h15 : rn ≠ 15) :
    let n := (regList list).length; let x := blockAddresses p u (s.reg rn) n
    exec (.stm c p u w rn list) s = finish (s.checkBlock x.1 n >>= fun _ =>
      State.writeWords { s with freeCount := if baseUnknown w rn (regList list) = true then s.freeCount + 1
        else s.freeCount } x.1 (s.stmValues w rn (regList list)) >>= fun t =>
      (t.openMonitor.setBase rn (listBase w x.2)).advance 4) := by
  have hexec : exec (.stm c p u w rn list) s = _ := exec_of_passed hc rfl
  rw [checkList_eq, if_neg hlist, if_neg h15] at hexec
  simp only [State.drawn_eq, blockStart_eq, State.writeBlockBase_eq _ w p] at hexec
  exact hexec

/-- STM of the user bank whose registers break no restriction, in a mode with an spsr. -/
theorem exec_stmUser {c : Cond} {s : State} (hc : s.passed c = true) (p u : Bool) {rn : RegNum} {list : BitVec 16}
    (hlist : list ≠ 0) (h15 : rn ≠ 15) (hmode : s.spsrIndex?.isNone = false) :
    let n := (regList list).length; let start := (blockAddresses p u (s.reg rn) n).1
    exec (.stmUser c p u false rn list) s = finish (s.checkBlock start n >>= fun _ =>
      s.writeWords start (s.userValues (regList list)) >>= fun t => t.openMonitor.advance 4) := by
  have hexec : exec (.stmUser c p u false rn list) s = _ := exec_of_passed hc rfl
  rw [checkList_eq, if_neg hlist, if_neg h15, hmode] at hexec
  simp only [blockStart_eq] at hexec
  exact hexec

/-! ## The list of the forms with `^`, read back -/

theorem setWidth_setWidth_of_bit15 {list : BitVec 16} (h : list.getLsbD 15 = false) :
    (list.setWidth 15).setWidth 16 = list := by
  refine BitVec.eq_of_getLsbD_eq fun j hj16 => ?_
  obtain rfl | hj : j = 15 ∨ j < 15 := by omega
  · rw [h]; simp
  · simp [hj, hj16]

theorem one_append_setWidth_of_bit15 {list : BitVec 16} (h : list.getLsbD 15 = true) :
    (1#1 ++ list.setWidth 15 : BitVec 16) = list := by
  refine BitVec.eq_of_getLsbD_eq fun j hj => ?_
  rw [BitVec.getLsbD_append]
  obtain rfl | hj : j = 15 ∨ j < 15 := by omega
  · simp [h]
  · simp [hj]

/-- Settles O53: the tests pass, and the first access that aborts ends the transfer before a register is written. -/
theorem abortedMultiplesWriteNoRegister : Obligations.AbortedMultiplesWriteNoRegister := by
  intro c p u w rn list s k hc hlist h15 n start a banked low inList partly hal hw hk
  have hmode : banked → s.spsrIndex?.isNone = false := fun h => by
    rw [Option.isNone_eq_false_iff]; exact h
  refine ⟨fun habort => ⟨fun hbase => ?ldm, fun hb hwb hbit => ?ldmUser, fun hb hbase hbit => ?ldmReturn⟩,
    fun hbelow habort => ⟨?stm, fun hb hwb => ?stmUser⟩⟩
  case ldm => exact exec_of_aborted_load hal hw hk habort (exec_ldm hc p u hlist h15 hbase)
  case ldmUser =>
    have hlow : low.setWidth 16 = list := setWidth_setWidth_of_bit15 hbit
    have hexec := exec_ldmUser hc p u (list := low) (fun h => hlist (by rw [← hlow, h]; rfl)) h15 (hmode hb)
    rw [hlow] at hexec
    rw [hwb]
    exact exec_of_aborted_load hal hw hk habort hexec
  case ldmReturn =>
    have hlow : (1#1 ++ low : BitVec 16) = list := one_append_setWidth_of_bit15 hbit
    obtain ⟨psr, hpsr⟩ : ∃ psr, s.spsr? = some psr := Option.isNone_eq_false_iff.mp (s.isNone_spsrIndex? ▸ hmode hb)
      |> Option.isSome_iff_exists.mp
    have hexec := exec_ldmReturn hc p u (w := w) (list := low) h15 hpsr (by rw [hlow]; exact hbase)
    rw [hlow] at hexec
    exact exec_of_aborted_load hal hw hk habort hexec
  case stm =>
    obtain ⟨m, f, he, hm, hv⟩ := exec_of_aborted_store (s.length_stmValues ..) hal hw hk hbelow habort
      (exec_stm hc p u w hlist h15)
    exact ⟨m, f, he, hm, fun j hj r hr hfirst => hv j hj _ (State.stmValues_getElem? hr hfirst)⟩
  case stmUser =>
    rw [hwb]
    obtain ⟨m, f, he, hm, hv⟩ := exec_of_aborted_store (f := s.freeCount) (s.length_userValues _) hal hw hk hbelow
      habort (exec_stmUser hc p u hlist h15 (hmode hb))
    exact ⟨m, f, he, hm, fun j hj r hr => hv j hj _ (State.userValues_getElem? hr)⟩

end Sys2Proof.Machine
end

section
/-! Proofs. The multiple transfers of Thumb: O59. -/

namespace Sys2Proof.Machine

/-! ## The end of a store of words -/

/-- The count of free values is no part of the system state. -/
theorem SameSystem.of_withCount {s t : State} {f : Nat} (h : SameSystem { s with freeCount := f } t) :
    SameSystem s t := { h with }

/-- A store of words and the base written back: each word, the base, nothing else. -/
theorem storedBlock_ends {i : Instr} {s : State} {f len : Nat} {start : Word} {vs : List Word} {rn : RegNum}
    {wb : Option Word} (hpc : s.pc.toNat + len < 2 ^ 32)
    (hw : crossesTop (wordBase start) (4 * vs.length) = false) (hrn : wb.isSome = true → rn ≠ 15)
    (hexec : exec i s = finish (((State.setWords { s with freeCount := f } start vs).openMonitor.setBase rn wb).advance len)) :
    Yields i s fun t => (∀ j v, vs[j]? = some v → t.blockWord start j = v) ∧ BaseIs t rn wb ∧
      StoreFrame s.openMonitor t (s.pc + BitVec.ofNat 32 len) (baseDest rn wb) (wordBase start) (4 * vs.length) := by
  let u : State := { s with freeCount := f }
  let bs := wordBytes s.bigEndian vs
  have hsame : ((u.setWords start vs).openMonitor.setBase rn wb).pc = s.pc :=
    (State.setBase_pc ..).trans (u.setBytes_pc ..)
  have hframe := u.afterStore_frame (wordBase start) bs rn wb (s.pc + BitVec.ofNat 32 len)
  rw [length_wordBytes] at hframe
  rw [State.advance_eq (by rwa [hsame]), hsame] at hexec
  refine ⟨_, hexec, fun j v hv => ?words, u.afterStore_baseIs _ bs rn _ hrn,
    ⟨rfl, hframe.regs, hframe.status, hframe.system.of_withCount, hframe.memory⟩⟩
  case words =>
    obtain ⟨hj, hv⟩ := List.getElem?_eq_some_iff.mp hv
    exact (u.afterStore_dataWord (wordBase start) bs rn wb _ _).trans ((u.blockWord_setWords hw hj).trans hv)

/-! ## The lists of the Thumb multiples (R610, R611) -/

section
variable (r : Bool) (l8 : BitVec 8)

/-- The high half of a list and its low half, as the bits that each adds. -/
theorem append_eq_or (hi : BitVec 8) : (hi ++ l8 : BitVec 16) = l8.setWidth 16 ||| (hi ++ 0#8) := by
  refine BitVec.eq_of_getLsbD_eq fun j hj => ?_
  rw [BitVec.getLsbD_or, BitVec.getLsbD_append, BitVec.getLsbD_append, BitVec.getLsbD_setWidth, decide_eq_true hj]
  split
  · simp
  next h => rw [BitVec.getLsbD_of_ge l8 j (Nat.le_of_not_lt h)]; rfl

theorem stackList_lr : stackList r 0x4000 l8 = (bit false ++ bit r ++ 0#6 ++ l8 : BitVec 16) := by
  rw [append_eq_or]; cases r <;> rfl

theorem stackList_pc : stackList r 0x8000 l8 = (bit r ++ 0#7 ++ l8 : BitVec 16) := by
  rw [append_eq_or]; cases r <;> rfl

theorem setWidth_sixteen : l8.setWidth 16 = (0#8 ++ l8 : BitVec 16) := by
  rw [append_eq_or]; exact (BitVec.or_zero).symm

/-- r13 is no register of POP's list. -/
theorem popped_bit13 : (bit r ++ 0#7 ++ l8 : BitVec 16).getLsbD 13 = false := by
  rw [BitVec.getLsbD_append, if_neg (by decide), BitVec.getLsbD_append, if_pos (by decide), BitVec.getLsbD_zero]

theorem plain_getLsbD (j : Nat) : (0#8 ++ l8 : BitVec 16).getLsbD j = l8.getLsbD j := by
  rw [BitVec.getLsbD_append]
  split
  · rfl
  next h => rw [BitVec.getLsbD_zero, BitVec.getLsbD_of_ge _ _ (by simpa using h)]

end

/-- The registers of a list, the low ones first. -/
theorem regList_append (hi l8 : BitVec 8) :
    regList (hi ++ l8) = regList (0#8 ++ l8) ++ regList (hi ++ 0#8) := by
  have hsplit : List.finRange 16 = [0, 1, 2, 3, 4, 5, 6, 7] ++ [8, 9, 10, 11, 12, 13, 14, 15] := by decide
  have hlow : ∀ q ∈ ([0, 1, 2, 3, 4, 5, 6, 7] : List RegNum), q.val < 8 := by decide
  have hhigh : ∀ q ∈ ([8, 9, 10, 11, 12, 13, 14, 15] : List RegNum), ¬ q.val < 8 := by decide
  have hfirst : ([0, 1, 2, 3, 4, 5, 6, 7] : List RegNum).filter (fun q => (hi ++ 0#8).getLsbD q.val) = [] :=
    List.filter_eq_nil_iff.mpr fun q hq => by
      rw [BitVec.getLsbD_append, if_pos (hlow q hq), BitVec.getLsbD_zero]; decide
  have hlast : ([8, 9, 10, 11, 12, 13, 14, 15] : List RegNum).filter (fun q => (0#8 ++ l8).getLsbD q.val) = [] :=
    List.filter_eq_nil_iff.mpr fun q hq => by
      rw [BitVec.getLsbD_append, if_neg (hhigh q hq), BitVec.getLsbD_zero]; decide
  rw [regList, regList, regList, hsplit]
  simp only [List.filter_append, hfirst, hlast, List.append_nil, List.nil_append]
  congr 1
  · exact List.filter_congr fun q hq => by
      rw [BitVec.getLsbD_append, BitVec.getLsbD_append, if_pos (hlow q hq), if_pos (hlow q hq)]
  · exact List.filter_congr fun q hq => by
      rw [BitVec.getLsbD_append, BitVec.getLsbD_append, if_neg (hhigh q hq), if_neg (hhigh q hq)]

/-- PUSH with lr and POP with pc move equally many words. -/
theorem length_pushed_eq_popped (r : Bool) (l8 : BitVec 8) :
    (regList (bit false ++ bit r ++ 0#6 ++ l8)).length = (regList (bit r ++ 0#7 ++ l8)).length := by
  have hhigh : (regList (bit false ++ bit r ++ 0#6 ++ 0#8)).length = (regList (bit r ++ 0#7 ++ 0#8)).length := by
    revert r; decide
  rw [regList_append (bit false ++ bit r ++ 0#6), regList_append (bit r ++ 0#7), List.length_append, List.length_append,
    hhigh]

theorem low_ne_fifteen (ln : LowReg) : low ln ≠ 15 := by revert ln; decide

theorem val_low (ln : LowReg) : (low ln).val = ln.val := by revert ln; decide

/-- The list of STMIA and LDMIA holds low registers only. -/
theorem ne_fifteen_of_mem_plain {l8 : BitVec 8} {q : RegNum} (h : q ∈ regList (0#8 ++ l8)) : q ≠ 15 := by
  rw [mem_regList, plain_getLsbD] at h
  rintro rfl
  rw [BitVec.getLsbD_of_ge _ _ (by decide)] at h
  cases h

/-! ## PUSH and STMIA (R610, R613) -/

/-- PUSH whose list is not empty. -/
theorem exec_tPush {r : Bool} {l8 : BitVec 8} {s : State} (hne : stackList r 0x4000 l8 ≠ 0) :
    let rs := regList (stackList r 0x4000 l8); let start := s.reg 13 - BitVec.ofNat 32 (4 * rs.length)
    exec (.tPush r l8) s = finish (s.checkBlock start rs.length >>= fun _ =>
      s.writeWords start (rs.map s.reg) >>= fun t => (t.openMonitor.setBase 13 (some start)).advance 2) := by
  have hexec : exec (.tPush r l8) s = finish (unpredictableIf (stackList r 0x4000 l8 == 0) .emptyList >>= _) := rfl
  rw [beq_false_of_ne hne] at hexec
  exact hexec

theorem tPush_yields {r : Bool} {l8 : BitVec 8} {pushed : BitVec 16} {s : State} (hpc : s.pc.toNat + 2 < 2 ^ 32)
    (hlist : stackList r 0x4000 l8 = pushed) :
    let np := (regList pushed).length
    let top := s.reg 13 - BitVec.ofNat 32 (4 * np)
    if pushed = 0 then exec (.tPush r l8) s = .fault .emptyList
    else BlockYields top np .write (.tPush r l8) s (Yields (.tPush r l8) s fun t =>
      (∀ (j : Nat) (q : RegNum), (regList pushed)[j]? = some q → t.blockWord top j = s.reg q) ∧ t.reg 13 = top ∧
      StoreFrame s.openMonitor t (s.pc + 2) [13] (top &&& 0xFFFFFFFC) (4 * np)) := by
  subst hlist
  intro np top
  have hlen : ((regList (stackList r 0x4000 l8)).map s.reg).length = np := List.length_map _
  split
  next h =>
    have hexec : exec (.tPush r l8) s = finish (unpredictableIf (stackList r 0x4000 l8 == 0) .emptyList >>= _) := rfl
    rw [hexec, beq_iff_eq.mpr h]; rfl
  next h =>
    refine blockYields_of_write (f := s.freeCount) hlen (exec_tPush h) fun hw he => ?_
    obtain ⟨t, he, hwords, hbase, hframe⟩ := storedBlock_ends hpc hw (fun _ => by decide) he
    rw [hlen] at hframe
    exact ⟨t, he, fun j q hq => hwords j _ (by rw [List.getElem?_map, hq]; rfl), hbase _ rfl, hframe⟩

/-- STMIA whose list is not empty. -/
theorem exec_tStmia {ln : LowReg} {l8 : BitVec 8} {s : State} (hne : l8 ≠ 0) :
    let rs := regList (l8.setWidth 16)
    exec (.tStmia ln l8) s = finish (s.checkBlock (s.lreg ln) rs.length >>= fun _ =>
      State.writeWords { s with freeCount := if baseUnknown true (low ln) rs = true then s.freeCount + 1
        else s.freeCount } (s.lreg ln) (s.stmValues true (low ln) rs) >>= fun t =>
      (t.openMonitor.setBase (low ln) (some (s.lreg ln + BitVec.ofNat 32 (4 * rs.length)))).advance 2) := by
  have hexec : exec (.tStmia ln l8) s = finish (unpredictableIf (l8.setWidth 16 == (0 : BitVec 16)) .emptyList >>= _) :=
    rfl
  rw [beq_false_of_ne (mt (setWidth_eq_zero_iff (by decide) l8).mp hne)] at hexec
  simp only [State.drawn_eq] at hexec
  exact hexec

theorem tStmia_yields {ln : LowReg} {l8 : BitVec 8} {s : State} (hpc : s.pc.toNat + 2 < 2 ^ 32) :
    let plain : BitVec 16 := 0#8 ++ l8; let n := (regList plain).length; let base := s.lreg ln
    if l8 = 0 then exec (.tStmia ln l8) s = .fault .emptyList
    else BlockYields base n .write (.tStmia ln l8) s (Yields (.tStmia ln l8) s fun t =>
      (∀ (j : Nat) (q : RegNum), (regList plain)[j]? = some q → (q = low ln → j = 0) →
        t.blockWord base j = s.reg q) ∧
      t.lreg ln = base + BitVec.ofNat 32 (4 * n) ∧
      StoreFrame s.openMonitor t (s.pc + 2) [low ln] (base &&& 0xFFFFFFFC) (4 * n)) := by
  intro plain n base
  split
  next h => rw [h]; rfl
  next h =>
    have hlen : (s.stmValues true (low ln) (regList plain)).length = n := s.length_stmValues ..
    have hexec := exec_tStmia (ln := ln) (s := s) h
    rw [setWidth_sixteen] at hexec
    refine blockYields_of_write hlen hexec fun hw he => ?_
    obtain ⟨t, he, hwords, hbase, hframe⟩ := storedBlock_ends hpc hw (fun _ => low_ne_fifteen ln) he
    rw [hlen] at hframe
    refine ⟨t, he, fun j q hq hfirst => ?_, hbase _ rfl, hframe⟩
    have hq15 := ne_fifteen_of_mem_plain (List.mem_of_getElem? hq)
    rw [hwords j _ (State.stmValues_getElem? hq fun h => hfirst h.2), State.stored, if_neg hq15]

/-! ## POP and LDMIA (R611, R612) -/

/-- A frame names its registers in any order. -/
theorem RegsWritten.mono {s u : State} {ds ds' : List RegNum} (h : RegsWritten s u ds) (hsub : ds ⊆ ds') :
    RegsWritten s u ds' := { h with regs := fun k hk => h.regs k fun r hr => hk r (hsub hr) }

section
variable {s : State} {rn : RegNum} {list : BitVec 16} {newBase start : Word}

theorem regsWritten_thumbList :
    RegsWritten s (s.afterList true rn newBase list start) (rn :: regList list) :=
  regsWritten_afterList.mono fun _ h => by simpa [blockDest, or_comm] using h

/-- The end of a Thumb load multiple that does not load pc. -/
theorem thumbLoad_ends {i : Instr} (hpc : s.pc.toNat + 2 < 2 ^ 32) (h15 : rn ≠ 15) (hbase : list.getLsbD rn.val = false)
    (hexec : exec i s = finish ((s.afterList true rn newBase list start).advance 2)) :
    Yields i s fun t => ListLoaded s t s.mode? list start ∧ t.reg rn = newBase ∧
      Frame s t (s.pc + 2) (rn :: regList list) 0 := by
  have hwritten := regsWritten_thumbList (s := s) (rn := rn) (newBase := newBase) (list := list) (start := start)
  rw [afterList_advance hpc] at hexec
  refine ⟨_, hexec, listLoaded_afterList rfl, ?_, hwritten.setPc_frame _⟩
  exact (congrArg (State.regIn _ · rn) (State.mode?_congr hwritten.cpsr)).trans
    (regIn_base_afterList rfl h15 hbase rfl)

/-- The end of a Thumb load multiple that loads pc. -/
theorem thumbReturn_ends {i : Instr} {last : Word} (h15 : rn ≠ 15) (hbase : list.getLsbD rn.val = false)
    (hexec : exec i s = finish ((s.afterList true rn newBase list start).loadWritePc last)) :
    YieldsUnless (decide (last &&& 3 = 2)) .exchangeUnaligned i s fun t =>
      t.thumb = last.getLsbD 0 ∧ ListLoaded s t s.mode? list start ∧ t.reg rn = newBase ∧
      Frame s t (last &&& 0xFFFFFFFE) (rn :: regList list) 0x20 := by
  have hwritten := regsWritten_thumbList (s := s) (rn := rn) (newBase := newBase) (list := list) (start := start)
  refine exchangeYields_of_exec hexec ⟨State.exchanged_thumb .., listLoaded_afterList rfl, ?_,
    hwritten.exchanged_frame last⟩
  rw [State.reg, State.exchanged_mode?, State.mode?_congr hwritten.cpsr]
  exact regIn_base_afterList rfl h15 hbase rfl

end

/-- POP whose list is not empty. -/
theorem exec_tPop {r : Bool} {l8 : BitVec 8} {s : State} (hne : stackList r 0x8000 l8 ≠ 0) :
    let rs := regList (stackList r 0x8000 l8)
    exec (.tPop r l8) s = finish (s.loadBlock false true 13 rs.length >>= fun vs =>
      let t := (s.setBase 13 (listBase true (s.reg 13 + BitVec.ofNat 32 (4 * rs.length)))).setRegs s.mode? rs vs
      if r then t.loadWritePc (vs.getLastD 0) else t.advance 2) := by
  have hexec : exec (.tPop r l8) s = finish (unpredictableIf (stackList r 0x8000 l8 == 0) .emptyList >>= _) := rfl
  rw [beq_false_of_ne hne] at hexec
  exact hexec

theorem tPop_yields {r : Bool} {l8 : BitVec 8} {popped : BitVec 16} {np : Nat} {s : State}
    (hpc : s.pc.toNat + 2 < 2 ^ 32) (hlist : stackList r 0x8000 l8 = popped) (hnp : (regList popped).length = np)
    (h13 : popped.getLsbD 13 = false) :
    let sp := s.reg 13
    let newBase := sp + BitVec.ofNat 32 (4 * np); let last := s.blockWord sp (np - 1)
    if popped = 0 then exec (.tPop r l8) s = .fault .emptyList
    else BlockYields sp np .read (.tPop r l8) s
      (if r then YieldsUnless (decide (last &&& 3 = 2)) .exchangeUnaligned (.tPop r l8) s fun t =>
          t.thumb = last.getLsbD 0 ∧ ListLoaded s t s.mode? popped sp ∧ t.reg 13 = newBase ∧
          Frame s t (last &&& 0xFFFFFFFE) (13 :: regList popped) 0x20
        else Yields (.tPop r l8) s fun t => ListLoaded s t s.mode? popped sp ∧ t.reg 13 = newBase ∧
          Frame s t (s.pc + 2) (13 :: regList popped) 0) := by
  subst hlist hnp
  intro sp newBase last
  split
  next h =>
    have hexec : exec (.tPop r l8) s = finish (unpredictableIf (stackList r 0x8000 l8 == 0) .emptyList >>= _) := rfl
    rw [hexec, beq_iff_eq.mpr h]; rfl
  next h =>
    refine blockYields_of_load (p := false) (u := true) (rn := 13) (exec_tPop h) fun he => ?_
    rw [s.blockWords_last _ (mt List.length_eq_zero_iff.mp (regList_ne_nil h))] at he
    split
    next hr => rw [if_pos hr] at he; exact thumbReturn_ends (by decide) h13 he
    next hr => rw [if_neg hr] at he; exact thumbLoad_ends hpc (by decide) h13 he

/-- LDMIA whose list is not empty and does not hold the base. -/
theorem exec_tLdmia {ln : LowReg} {l8 : BitVec 8} {s : State} (hne : l8 ≠ 0)
    (hbase : (l8.setWidth 16).getLsbD (low ln).val = false) :
    let rs := regList (l8.setWidth 16)
    exec (.tLdmia ln l8) s = finish (s.loadBlock false true (low ln) rs.length >>= fun vs =>
      ((s.setBase (low ln) (listBase true (s.lreg ln + BitVec.ofNat 32 (4 * rs.length)))).setRegs s.mode? rs
        vs).advance 2) := by
  have hexec : exec (.tLdmia ln l8) s = finish (unpredictableIf (l8.setWidth 16 == (0 : BitVec 16)) .emptyList >>=
    fun _ => unpredictableIf ((regList (l8.setWidth 16)).contains (low ln)) .baseInList >>= _) := rfl
  rw [beq_false_of_ne (mt (setWidth_eq_zero_iff (by decide) l8).mp hne), contains_regList, hbase] at hexec
  exact hexec

theorem tLdmia_yields {ln : LowReg} {l8 : BitVec 8} {s : State} (hpc : s.pc.toNat + 2 < 2 ^ 32) :
    let plain : BitVec 16 := 0#8 ++ l8; let n := (regList plain).length; let base := s.lreg ln
    if l8 = 0 then exec (.tLdmia ln l8) s = .fault .emptyList
    else if l8.getLsbD ln.val then exec (.tLdmia ln l8) s = .fault .baseInList
    else BlockYields base n .read (.tLdmia ln l8) s (Yields (.tLdmia ln l8) s fun t =>
      ListLoaded s t s.mode? plain base ∧ t.lreg ln = base + BitVec.ofNat 32 (4 * n) ∧
      Frame s t (s.pc + 2) (low ln :: regList plain) 0) := by
  intro plain n base
  have hbit : (l8.setWidth 16).getLsbD (low ln).val = l8.getLsbD ln.val := by
    rw [setWidth_sixteen, plain_getLsbD, val_low]
  split
  next h => rw [h]; rfl
  next hne =>
    split
    next h =>
      have hexec : exec (.tLdmia ln l8) s = finish (unpredictableIf (l8.setWidth 16 == (0 : BitVec 16)) .emptyList >>=
        fun _ => unpredictableIf ((regList (l8.setWidth 16)).contains (low ln)) .baseInList >>= _) := rfl
      rw [hexec, beq_false_of_ne (mt (setWidth_eq_zero_iff (by decide) l8).mp hne), contains_regList, hbit, h]; rfl
    next h =>
      have hbase := hbit.trans (eq_false_of_ne_true h)
      have hexec := exec_tLdmia (s := s) hne hbase
      rw [setWidth_sixteen] at hexec hbase
      exact blockYields_of_load (p := false) (u := true) (rn := low ln) hexec fun he =>
        thumbLoad_ends hpc (low_ne_fifteen ln) hbase he

/-- Settles O59: each is a block of the list of its halfword, written or read, and the base. -/
theorem thumbMultiplesYield : Obligations.ThumbMultiplesYield := by
  intro r l8 ln s ⟨_, hpc⟩ pushed popped plain np n sp base up top last
  exact ⟨tPush_yields hpc (stackList_lr r l8), tPop_yields hpc (stackList_pc r l8)
    (length_pushed_eq_popped r l8).symm (popped_bit13 r l8), tStmia_yields hpc, tLdmia_yields hpc⟩

end Sys2Proof.Machine
end

section
/-! Proofs. LDC and STC: O42. -/

namespace Sys2Proof.Machine

/-! ## Addresses (R284) -/

section
variable (addr : CpAddressing) (base : Word)

theorem shiftLeft_two (x : Word) : x <<< 2 = 4 * x := shiftLeft_eq_mul x 2

theorem cpAddress_addr : (cpAddress addr base).addr = cpStart addr base := by
  cases addr with
  | unindexed option => rfl
  | indexed idx u imm => rw [cpAddress, indexedAddress_addr, shiftLeft_two]; cases idx <;> rfl

theorem State.writeBase_cpAddress (s : State) (rn : RegNum) :
    s.writeBase rn (cpAddress addr base) = s.setBase rn (cpNewBase addr base) := by
  cases addr with
  | unindexed option => rfl
  | indexed idx u imm => rw [cpAddress, State.writeBase_indexedAddress, shiftLeft_two]; cases idx <;> rfl

theorem isSome_cpNewBase : (cpNewBase addr base).isSome = cpWritesBack addr := by
  cases addr with
  | unindexed option => rfl
  | indexed idx u imm => cases idx <;> rfl

end

/-! ## The tests (R281) -/

/-- Where the coprocessor accepts the instruction, its own restriction alone can stop it. -/
theorem State.checkCpOther_accepted {s : State} {p : RegNum} {i : Instr} (h : s.Accepts p i) (b : Bool) (f : Fault) :
    s.checkCpOther p i (restriction b f) = unpredictableIf b f := by
  obtain ⟨h15, hpresent, haccepts⟩ := h
  rw [State.checkCpOther, if_neg h15]
  cases b with
  | true =>
    have hbroken : restriction true f = some f := rfl
    rw [hbroken, State.checkCp_unpredictable hpresent haccepts]; rfl
  | false =>
    have hopen : s.checkCp p i (restriction false f) = .ok () := by
      simp [State.checkCp, restriction, hpresent, haccepts]
    rw [hopen]; rfl

/-! ## The words of LDC delivered (R285) -/

section
variable (s : State) (p : RegNum)

theorem State.setCpRegs_self : s.setCpRegs p (s.cpRegs p) = s := by
  have hcop : s.cop.set p.val { s.cop[p.val] with regs := s.cpRegs p } = s.cop := Vector.set_getElem_self _
  rw [State.setCpRegs, hcop]

theorem State.cpRegs_setCpRegs (r : CpRegs) : (s.setCpRegs p r).cpRegs p = r := by
  rw [State.cpRegs, State.setCpRegs]; simp

theorem State.setCpRegs_setCpRegs (r r' : CpRegs) : (s.setCpRegs p r).setCpRegs p r' = s.setCpRegs p r' := by
  simp [State.setCpRegs]

end

/-- LDC leaves in its coprocessor what the words leave there, the first with number `k`. -/
theorem State.ldcWords_eq (s : State) (req : CpReq) (k : Nat) (vs : List Word) :
    s.ldcWords req k vs = s.setCpRegs req.cp ((vs.zipIdx k).foldl
      (fun r x => Config.cpLdcWord { req with option := 0 } x.2 x.1 r) (s.cpRegs req.cp)) := by
  induction vs generalizing s k with
  | nil => exact (s.setCpRegs_self req.cp).symm
  | cons v vs ih =>
    rw [State.ldcWords, ih, State.cpRegs_setCpRegs, State.setCpRegs_setCpRegs, List.zipIdx_cons, List.foldl_cons]

theorem State.ldcWords_deliver (s : State) (req : CpReq) (vs : List Word) :
    s.ldcWords req 0 vs = s.setCpRegs req.cp (deliver req vs (s.cpRegs req.cp)) := s.ldcWords_eq req 0 vs

section
variable {i : Instr} {s : State} {rn : RegNum}

/-- The end of LDC: the coprocessor's registers, then the base. -/
theorem ldc_ends {p : RegNum} {new : CpRegs} {wb : Option Word} (hpc : s.pc.toNat + 4 < 2 ^ 32)
    (hrn : wb.isSome = true → rn ≠ 15)
    (hexec : exec i s = finish (((s.setCpRegs p new).setBase rn wb).advance 4)) :
    Yields i s fun t => BaseIs t rn wb ∧ UpdatesCp s p new (baseDest rn wb) t := by
  let u := s.setCpRegs p new
  have hwritten : RegsWritten u (u.setBase rn wb) (baseDest rn wb) := regsWritten_list (rs := []) (vs := [])
  have hsame : (u.setBase rn wb).pc = s.pc := State.setBase_pc ..
  have hcop : ((u.setBase rn wb).setPc (s.pc + 4)).cop = s.cop.set p.val { s.cop[p.val] with regs := new } :=
    hwritten.system.cop
  rw [State.advance_eq (by rwa [hsame]), hsame] at hexec
  refine ⟨(u.setBase rn wb).setPc (s.pc + 4), hexec, (State.baseIs_setBase hrn).congr rfl rfl hrn, hcop, ?_⟩
  rw [hcop]
  exact hwritten.setPc_frame _

section
variable {req : CpReq} {addr : CpAddressing}

theorem base_ne_pc_of_not_bad (h : ¬ (cpWritesBack addr && rn == 15) = true) (base : Word) :
    (cpNewBase addr base).isSome = true → rn ≠ 15 := by
  rw [isSome_cpNewBase]
  rintro hwb rfl
  exact h (by rw [hwb]; rfl)

/-- LDC that its coprocessor accepts. -/
theorem ldc_yields (hpc : s.pc.toNat + 4 < 2 ^ 32) (hexec : exec i s = finish (s.cpLoad i req rn addr))
    (haccepts : s.Accepts req.cp i) :
    let old := s.cop[req.cp.val].regs; let n := (Config.cpLdcCount req old).val + 1
    let start := cpStart addr (s.reg rn); let wb := cpNewBase addr (s.reg rn)
    if cpWritesBack addr && rn == 15 then exec i s = .fault .coprocessorBasePc
    else BlockYields start n .read i s (Yields i s fun t =>
      BaseIs t rn wb ∧ UpdatesCp s req.cp (deliver req (s.blockWords start n) old) (baseDest rn wb) t) := by
  intro old n start wb
  rw [State.cpLoad, cpBaseBroken, State.checkCpOther_accepted haccepts] at hexec
  split
  next h => rw [hexec, h]; rfl
  next h =>
    rw [eq_false_of_ne_true h] at hexec
    simp only [cpAddress_addr, State.writeBase_cpAddress, State.ldcWords_deliver] at hexec
    exact blockYields_of_read hexec fun he => ldc_ends hpc (base_ne_pc_of_not_bad h _) he

/-- STC that its coprocessor accepts. -/
theorem stc_yields (hpc : s.pc.toNat + 4 < 2 ^ 32) (hexec : exec i s = finish (s.cpStore i req rn addr))
    (haccepts : s.Accepts req.cp i) :
    let old := s.cop[req.cp.val].regs; let n := (Config.cpStcCount req old).val + 1
    let start := cpStart addr (s.reg rn); let wb := cpNewBase addr (s.reg rn)
    if cpWritesBack addr && rn == 15 then exec i s = .fault .coprocessorBasePc
    else BlockYields start n .write i s (Yields i s fun t =>
      BaseIs t rn wb ∧ StoreFrame s.openMonitor t (s.pc + 4) (baseDest rn wb) (wordBase start) (4 * n) ∧
      ∀ j < n, t.blockWord start j = Config.cpStcWord { req with option := 0 } j old) := by
  intro old n start wb
  rw [State.cpStore, cpBaseBroken, State.checkCpOther_accepted haccepts] at hexec
  split
  next h => rw [hexec, h]; rfl
  next h =>
    have hlen : (s.stcValues req n).length = n := by rw [State.stcValues, List.length_map, List.length_range]
    rw [eq_false_of_ne_true h] at hexec
    simp only [cpAddress_addr, State.writeBase_cpAddress] at hexec
    refine blockYields_of_write (f := s.freeCount) hlen hexec fun hw he => ?_
    obtain ⟨t, he, hwords, hbase, hframe⟩ := storedBlock_ends hpc hw (base_ne_pc_of_not_bad h _) he
    rw [hlen] at hframe
    refine ⟨t, he, hbase, hframe, fun j hj => hwords j _ ?_⟩
    rw [State.stcValues, List.getElem?_map, List.getElem?_range hj]; rfl

end
end

/-- Settles O42: in both forms the tests of the coprocessor, then a block of reads or of writes. -/
theorem coprocessorLoadsAndStoresYield : Obligations.CoprocessorLoadsAndStoresYield := by
  intro c n two rn cd cp addr s ⟨hc, hpc⟩ ldcReq stcReq ldc stc start a old dests base nl ns bad
  have hldc : exec ldc s = finish (s.cpLoad ldc ldcReq rn addr) := by
    cases two with
    | false => exact exec_of_passed hc rfl
    | true => rfl
  have hstc : exec stc s = finish (s.cpStore stc stcReq rn addr) := by
    cases two with
    | false => exact exec_of_passed hc rfl
    | true => rfl
  exact ⟨fun haccepts => ldc_yields hpc hldc haccepts, fun haccepts => stc_yields hpc hstc haccepts⟩

end Sys2Proof.Machine
end

section
/-! Proofs. STM, and STM with `^`: O51. -/

namespace Sys2Proof.Machine

/-- The stops of a list and its base, in their order, before anything else (R372, R377). -/
theorem stops_of_checkList {i : Instr} {s : State} {rn : RegNum} {list : BitVec 16} {rest : Res State} {ok : Prop}
    (hexec : exec i s = finish (checkList list rn >>= fun _ => rest))
    (hok : list ≠ 0 → rn ≠ 15 → exec i s = finish rest → ok) :
    if list = 0 then exec i s = .fault .emptyList
    else if rn = 15 then exec i s = .fault .multipleBasePc
    else ok := by
  rw [checkList_eq] at hexec
  split
  next h => rw [hexec, if_pos h]; rfl
  next hlist =>
    rw [if_neg hlist] at hexec
    split
    next h => rw [hexec, if_pos h]; rfl
    next h15 =>
      rw [if_neg h15] at hexec
      exact hok hlist h15 hexec

/-- The end of STM: every word but that of an unknown base, the base, nothing else (R377, R378). -/
theorem stm_ends {i : Instr} {s : State} {f : Nat} {w : Bool} {rn : RegNum} {newBase start : Word} {list : BitVec 16}
    (hpc : s.pc.toNat + 4 < 2 ^ 32) (h15 : rn ≠ 15)
    (hwrap : crossesTop (wordBase start) (4 * (s.stmValues w rn (regList list)).length) = false)
    (hexec : exec i s = finish (((State.setWords { s with freeCount := f } start
      (s.stmValues w rn (regList list))).openMonitor.setBase rn (listBase w newBase)).advance 4)) :
    Yields i s fun t =>
      (∀ (j : Nat) (r : RegNum), (regList list)[j]? = some r → (w = true ∧ r = rn → j = 0) →
        t.blockWord start j = s.stored r) ∧
      (w = true → t.reg rn = newBase) ∧
      StoreFrame s.openMonitor t (s.pc + 4) (blockDest w rn) (wordBase start) (4 * (regList list).length) := by
  obtain ⟨t, he, hwords, hbase, hframe⟩ := storedBlock_ends hpc hwrap (fun _ => h15) hexec
  rw [baseDest_listBase, s.length_stmValues] at hframe
  exact ⟨t, he, fun j r hr hfirst => hwords j _ (State.stmValues_getElem? hr hfirst),
    fun hw => hbase _ (listBase_eq_some _ hw), hframe⟩

/-- The end of STM of the user bank: every word, no register (R379). -/
theorem stmUser_ends {i : Instr} {s : State} {start : Word} {list : BitVec 16} (hpc : s.pc.toNat + 4 < 2 ^ 32)
    (hwrap : crossesTop (wordBase start) (4 * (s.userValues (regList list)).length) = false)
    (hexec : exec i s = finish ((s.setWords start (s.userValues (regList list))).openMonitor.advance 4)) :
    Yields i s fun t =>
      (∀ (j : Nat) (r : RegNum), (regList list)[j]? = some r →
        t.blockWord start j = if r = 15 then s.stored 15 else s.regIn (some .usr) r) ∧
      StoreFrame s.openMonitor t (s.pc + 4) [] (wordBase start) (4 * (regList list).length) := by
  obtain ⟨t, he, hwords, -, hframe⟩ :=
    storedBlock_ends (f := s.freeCount) (rn := 0) (wb := none) hpc hwrap (fun _ => by decide) hexec
  rw [s.length_userValues] at hframe
  exact ⟨t, he, fun j r hr => hwords j _ (State.userValues_getElem? hr), hframe⟩

section
variable {c : Cond} {p u w : Bool} {rn : RegNum} {list : BitVec 16} {s : State}

theorem stm_yields (hc : s.passed c = true) (hpc : s.pc.toNat + 4 < 2 ^ 32) :
    let n := (regList list).length; let x := blockAddresses p u (s.reg rn) n; let i := Instr.stm c p u w rn list
    if list = 0 then exec i s = .fault .emptyList
    else if rn = 15 then exec i s = .fault .multipleBasePc
    else BlockYields x.1 n .write i s (Yields i s fun t =>
      (∀ (j : Nat) (r : RegNum), (regList list)[j]? = some r → (w = true ∧ r = rn → j = 0) →
        t.blockWord x.1 j = s.stored r) ∧
      (w = true → t.reg rn = x.2) ∧
      StoreFrame s.openMonitor t (s.pc + 4) (blockDest w rn) (wordBase x.1) (4 * n)) := by
  intro n x i
  refine stops_of_checkList (exec_of_passed hc rfl) fun hlist h15 _ => ?_
  exact blockYields_of_write (s.length_stmValues ..) (exec_stm hc p u w hlist h15) fun hwrap he =>
    stm_ends hpc h15 hwrap he

theorem stmUser_yields (hc : s.passed c = true) (hpc : s.pc.toNat + 4 < 2 ^ 32) :
    let n := (regList list).length; let x := blockAddresses p u (s.reg rn) n; let i := Instr.stmUser c p u w rn list
    if list = 0 then exec i s = .fault .emptyList
    else if rn = 15 then exec i s = .fault .multipleBasePc
    else if s.spsrIndex?.isNone then exec i s = .fault .userBankMode
    else if w then exec i s = .fault .userBankWriteback
    else BlockYields x.1 n .write i s (Yields i s fun t =>
      (∀ (j : Nat) (r : RegNum), (regList list)[j]? = some r →
        t.blockWord x.1 j = if r = 15 then s.stored 15 else s.regIn (some .usr) r) ∧
      StoreFrame s.openMonitor t (s.pc + 4) [] (wordBase x.1) (4 * n)) := by
  intro n x i
  refine stops_of_checkList (exec_of_passed hc rfl) fun hlist h15 hexec => ?_
  split
  next h => rw [hexec, h]; rfl
  next hmode =>
    have hmode := eq_false_of_ne_true hmode
    cases w with
    | true => rw [hexec, hmode]; rfl
    | false =>
      exact blockYields_of_write (f := s.freeCount) (s.length_userValues _) (exec_stmUser hc p u hlist h15 hmode)
        fun hwrap he => stmUser_ends hpc hwrap he

end

/-- Settles O51: the checks of each form, then the block of writes of the values of its list. -/
theorem storeMultipleYields : Obligations.StoreMultipleYields := by
  intro c p u w rn list s ⟨hc, hpc⟩ n x i iu
  exact ⟨stm_yields hc hpc, stmUser_yields hc hpc⟩

end Sys2Proof.Machine
end

section
/-! Proofs. The parallel additions and subtractions of the S, U, SH and UH forms: O30, O31. -/

namespace Sys2Proof.Machine

/-! ## The lanes of an operation (R445) -/

/-- A field at `pos` is the two fields that it is made of, each at its own place. -/
theorem setWidth_append_shiftLeft {n m : Nat} (x : BitVec n) (y : BitVec m) (pos : Nat) :
    ((x ++ y).setWidth 32 <<< pos : Word) = x.setWidth 32 <<< (pos + m) ||| y.setWidth 32 <<< pos := by
  refine BitVec.eq_of_getLsbD_eq fun j hj => ?_
  simp only [BitVec.getLsbD_or, BitVec.getLsbD_shiftLeft, BitVec.getLsbD_setWidth, BitVec.getLsbD_append]
  by_cases hlow : j < pos
  · simp [hlow, Nat.lt_add_right m hlow]
  · by_cases hy : j - pos < m
    · have hx : j < pos + m := by omega
      simp [hlow, hy, hx]
    · have hx : ¬ j < pos + m := by omega
      have hyj : y.getLsbD (j - pos) = false := BitVec.getLsbD_of_ge y _ (by omega)
      simp [hlow, hy, hx, hyj, hj, Nat.sub_sub, show j - pos < 32 by omega, show j - (pos + m) < 32 by omega]

/-- A word of two halves, as `packLanes` puts them together. -/
theorem append_halves (x y : Half) : (x ++ y : Word) = x.setWidth 32 <<< 16 ||| (y.setWidth 32 <<< 0 ||| 0) := by
  simpa using setWidth_append_shiftLeft x y 0

/-- A word of four bytes, as `packLanes` puts them together. -/
theorem append_bytes (x3 x2 x1 x0 : Byte) : (x3 ++ x2 ++ x1 ++ x0 : Word) = x3.setWidth 32 <<< 24 |||
    (x2.setWidth 32 <<< 16 ||| (x1.setWidth 32 <<< 8 ||| (x0.setWidth 32 <<< 0 ||| 0))) := by
  simpa [setWidth_append_shiftLeft (x3 ++ x2) x1, setWidth_append_shiftLeft x3 x2, BitVec.or_assoc] using
    setWidth_append_shiftLeft (x3 ++ x2 ++ x1) x0 0

/-- A lane is its place, its width and the exact sum or difference of the two fields. -/
theorem laneAt_eq (signed : Bool) (a b : Word) (w pos pos2 : Nat) (sub : Bool) :
    laneAt signed a b w pos pos2 sub =
      ⟨pos, w, exactLane signed w sub (a.extractLsb' pos w) (b.extractLsb' pos2 w), sub⟩ := by
  cases signed <;> rfl

section
variable (f : Lane → Int)

theorem packLanes_halves (v u : Int) (p q : Bool) : packLanes f [⟨16, 16, v, p⟩, ⟨0, 16, u, q⟩] =
    (BitVec.ofInt 16 (f ⟨16, 16, v, p⟩) ++ BitVec.ofInt 16 (f ⟨0, 16, u, q⟩) : Word) :=
  (append_halves ..).symm

theorem packLanes_bytes (v3 v2 v1 v0 : Int) (sub : Bool) :
    packLanes f [⟨24, 8, v3, sub⟩, ⟨16, 8, v2, sub⟩, ⟨8, 8, v1, sub⟩, ⟨0, 8, v0, sub⟩] =
      (BitVec.ofInt 8 (f ⟨24, 8, v3, sub⟩) ++ BitVec.ofInt 8 (f ⟨16, 8, v2, sub⟩) ++
        BitVec.ofInt 8 (f ⟨8, 8, v1, sub⟩) ++ BitVec.ofInt 8 (f ⟨0, 8, v0, sub⟩) : Word) :=
  (append_bytes ..).symm

end

/-- A lane-wise result is the word that the lanes finish to, where each lane is finished alike. -/
theorem packLanes_lanesOf {signed : Bool} {f : Lane → Int} {g : LaneStep BitVec}
    (h : ∀ pos w sub x y, BitVec.ofInt w (f ⟨pos, w, exactLane signed w sub x y, sub⟩) = g w sub x y)
    (op : LaneOp) (a b : Word) : packLanes f (lanesOf op signed a b) = laneWord op g a b := by
  cases op with
  | add16 | addsubx | subaddx | sub16 => simp only [lanesOf, laneAt_eq, packLanes_halves, h]; rfl
  | add8 | sub8 => simp only [lanesOf, laneAt_eq, packLanes_bytes, h]; rfl

/-! ## The lanes of the S, U, SH and UH forms (R459, R472) -/

/-- The low bits of the exact value are the sum or the difference of the fields. -/
theorem ofInt_exactLane (signed : Bool) (w : Nat) (sub : Bool) (x y : BitVec w) :
    BitVec.ofInt w (exactLane signed w sub x y) = if sub then x - y else x + y := by
  cases sub with
  | false => cases signed <;> simp [exactLane, BitVec.ofInt_add]
  | true =>
    cases signed <;>
      simp [exactLane, Int.sub_eq_add_neg, BitVec.ofInt_add, BitVec.ofInt_neg, BitVec.sub_eq_add_neg]

theorem packLanes_value (op : LaneOp) (signed : Bool) (a b : Word) :
    packLanes Lane.value (lanesOf op signed a b) =
      laneWord op (fun _ sub x y => if sub then x - y else x + y) a b :=
  packLanes_lanesOf (fun _ w sub x y => ofInt_exactLane signed w sub x y) op a b

theorem packLanes_half (op : LaneOp) (signed : Bool) (a b : Word) :
    packLanes (fun l => l.value / 2) (lanesOf op signed a b) =
      laneWord op (fun w sub x y => BitVec.ofInt w (exactLane signed w sub x y / 2)) a b :=
  packLanes_lanesOf (fun _ _ _ _ _ => rfl) op a b

/-! ## The GE flags (R459) -/

/-- The bound that the exact value of a lane is compared with: no borrow or no sign, or a carry out. -/
theorem laneGe_eq (signed : Bool) (l : Lane) :
    laneGe signed l = decide ((if signed || l.sub then 0 else 2 ^ l.width) ≤ l.value) := by
  unfold laneGe; split <;> rfl

/-- A lane of 16 bits sets two bits. -/
theorem or_halfGe (x y : Bool) : ((if x then 3#4 <<< 2 else 0) ||| ((if y then 3#4 <<< 0 else 0) ||| 0) : BitVec 4) =
    BitVec.ofBool x ++ BitVec.ofBool x ++ BitVec.ofBool y ++ BitVec.ofBool y := by
  revert x y; decide

/-- A lane of 8 bits sets one. -/
theorem or_byteGe (x3 x2 x1 x0 : Bool) : ((if x3 then 1#4 <<< 3 else 0) ||| ((if x2 then 1#4 <<< 2 else 0) |||
    ((if x1 then 1#4 <<< 1 else 0) ||| ((if x0 then 1#4 <<< 0 else 0) ||| 0))) : BitVec 4) =
    BitVec.ofBool x3 ++ BitVec.ofBool x2 ++ BitVec.ofBool x1 ++ BitVec.ofBool x0 := by
  revert x3 x2 x1 x0; decide

theorem packGe_halves (signed : Bool) (v u : Int) (p q : Bool) :
    packGe signed [⟨16, 16, v, p⟩, ⟨0, 16, u, q⟩] =
      (BitVec.ofBool (laneGe signed ⟨16, 16, v, p⟩) ++ BitVec.ofBool (laneGe signed ⟨16, 16, v, p⟩) ++
        BitVec.ofBool (laneGe signed ⟨0, 16, u, q⟩) ++ BitVec.ofBool (laneGe signed ⟨0, 16, u, q⟩) : BitVec 4) := by
  rw [← or_halfGe]; simp [packGe]

theorem packGe_bytes (signed : Bool) (v3 v2 v1 v0 : Int) (sub : Bool) :
    packGe signed [⟨24, 8, v3, sub⟩, ⟨16, 8, v2, sub⟩, ⟨8, 8, v1, sub⟩, ⟨0, 8, v0, sub⟩] =
      (BitVec.ofBool (laneGe signed ⟨24, 8, v3, sub⟩) ++ BitVec.ofBool (laneGe signed ⟨16, 8, v2, sub⟩) ++
        BitVec.ofBool (laneGe signed ⟨8, 8, v1, sub⟩) ++ BitVec.ofBool (laneGe signed ⟨0, 8, v0, sub⟩) : BitVec 4) := by
  rw [← or_byteGe]; simp [packGe]

theorem packGe_lanesOf (op : LaneOp) (signed : Bool) (a b : Word) : packGe signed (lanesOf op signed a b) =
    laneBits op (fun w sub x y => decide ((if signed || sub then 0 else 2 ^ w) ≤ exactLane signed w sub x y)) a b := by
  cases op with
  | add16 | addsubx | subaddx | sub16 => simp only [lanesOf, laneAt_eq, packGe_halves, laneGe_eq]; rfl
  | add8 | sub8 => simp only [lanesOf, laneAt_eq, packGe_bytes, laneGe_eq]; rfl

/-! ## The status register after a write of GE (R54) -/

/-- A masked write changes no bit outside its mask. -/
theorem sameStatus_maskWrite {s t : State} {new mask : Word} (h : t.cpsr = maskWrite s.cpsr new mask) :
    SameStatus s t mask := by
  rw [SameStatus, h]
  refine BitVec.eq_of_getLsbD_eq fun j hj => ?_
  rw [BitVec.getLsbD_and, BitVec.getLsbD_and, BitVec.getLsbD_not, maskWrite_getLsbD _ _ _ _ hj]
  cases mask.getLsbD j <;> simp

theorem State.setGe_mode? (s : State) (g : BitVec 4) : (s.setGe g).mode? = s.mode? := by
  have hmask : ∀ j < 5, (0x000F0000 : Word).getLsbD j = false := by decide
  refine congrArg Mode.ofBits (BitVec.eq_of_getLsbD_eq fun j hj => ?_)
  rw [State.setGe_eq, State.setCpsr_cpsr, modeField, modeField, BitVec.getLsbD_extractLsb', BitVec.getLsbD_extractLsb',
    Nat.zero_add, maskWrite_getLsbD _ _ _ _ (by omega), hmask j hj, if_neg Bool.false_ne_true]

theorem State.setGe_ge (s : State) (g : BitVec 4) : (s.setGe g).ge = g := by
  have hmask : ∀ j < 4, (0x000F0000 : Word).getLsbD (16 + j) = true := by decide
  refine BitVec.eq_of_getLsbD_eq fun j hj => ?_
  rw [State.setGe_eq, State.ge, State.setCpsr_cpsr, BitVec.getLsbD_extractLsb',
    maskWrite_getLsbD _ _ _ _ (by omega), hmask j hj, if_pos rfl]
  simp [hj, show 16 + j < 32 by omega]

/-! ## From a media instruction to its effect (R26, R440) -/

/-- pc in a register field stops; otherwise the instruction is its effect. -/
theorem mediaYields_of_exec {regs : List RegNum} {i : Instr} {s : State} {body : Res State} {post : State → Prop}
    (hexec : exec i s = finish (checkMedia regs >>= fun _ => body))
    (hok : 15 ∉ regs → ∃ t, body = .ok t ∧ post t) : MediaYields regs i s post := by
  unfold MediaYields YieldsUnless
  by_cases h : 15 ∈ regs
  · rw [decide_eq_true h, if_pos rfl, hexec, checkMedia, List.contains_iff_mem.mpr h]; rfl
  · obtain ⟨t, rfl, hpost⟩ := hok h
    rw [decide_eq_false h, if_neg Bool.false_ne_true]
    refine ⟨t, ?_, hpost⟩
    rw [hexec, checkMedia, List.contains_eq_mem, decide_eq_false h]; rfl

/-- Only Rd is written. -/
theorem State.regsWritten_setReg (s : State) (rd : RegNum) (v : Word) : RegsWritten s (s.setReg rd v) [rd] where
  regs := (SameRegs.refl s _).setRegIn v List.mem_cons_self
  cpsr := s.setRegIn_cpsr ..
  system := (SameSystem.refl s).setRegIn ..
  mem := s.setRegIn_mem ..

/-- Rd reads what was written to it, in every later state with the same registers and mode. -/
theorem State.reg_of_setReg {s t : State} {rd : RegNum} {v : Word} (hrd : rd ≠ 15)
    (hregs : t.regs = (s.setReg rd v).regs) (hm : t.mode? = s.mode?) : t.reg rd = v := by
  rw [State.reg, hm, State.regIn_congr hregs _ hrd]
  exact s.regIn_setRegIn_self s.mode? rd v hrd

theorem RegsWritten.setGe_frame {s u : State} {dests : List RegNum} (h : RegsWritten s u dests) (g : BitVec 4)
    (next : Word) : Frame s ((u.setGe g).setPc next) next dests maskGE :=
  ⟨rfl, h.regs, sameStatus_maskWrite (congrArg (maskWrite · _ _) h.cpsr), (h.system.setCpsr _).setPc next,
    .of_mem_eq h.mem⟩

section
variable {op : LaneOp} {signed : Bool} {rn rd rm : RegNum} {s : State} {i : Instr} {c : Cond} (hs : s.Ready c 4)
include hs

/-- An instruction of the S or U form: the lanes wrapped, their comparisons in GE. -/
theorem wrapLanes_of_exec (hexec : exec i s = finish (s.conditional c (s.parallelMod op signed rn rd rm))) :
    WrapLanes signed op rn rd rm s i := by
  obtain ⟨hc, hpc⟩ := hs
  refine mediaYields_of_exec (exec_of_passed hc hexec) fun h15 => ?_
  have hrd : rd ≠ 15 := fun e => h15 (by simp [e])
  have hw := s.regsWritten_setReg rd (packLanes Lane.value (lanesOf op signed (s.reg rn) (s.reg rm)))
  refine ⟨_, State.advance_eq (by simpa using hpc), ?reg, ?ge, ?frame⟩
  case reg =>
    rw [← packLanes_value op signed]
    exact State.reg_of_setReg hrd rfl ((State.setGe_mode? ..).trans (State.mode?_congr hw.cpsr))
  case ge =>
    rw [← packGe_lanesOf]
    exact State.setGe_ge ..
  case frame => simpa using hw.setGe_frame _ (s.pc + 4)

/-- An instruction of the SH or UH form: the lanes halved, no flag. -/
theorem halfLanes_of_exec (hexec : exec i s = finish (s.conditional c (s.parallelHalf op signed rn rd rm))) :
    HalfLanes signed op rn rd rm s i := by
  obtain ⟨hc, hpc⟩ := hs
  refine mediaYields_of_exec (exec_of_passed hc hexec) fun h15 => ?_
  have hrd : rd ≠ 15 := fun e => h15 (by simp [e])
  have hw := s.regsWritten_setReg rd (packLanes (fun l => l.value / 2) (lanesOf op signed (s.reg rn) (s.reg rm)))
  refine ⟨_, State.advance_eq (by simpa using hpc), ?reg, ?frame⟩
  case reg =>
    rw [← packLanes_half]
    exact State.reg_of_setReg hrd rfl (State.mode?_congr hw.cpsr)
  case frame => simpa using hw.setPc_frame (s.pc + 4)

end

/-- Settles O30: the operation of each instruction, its lanes wrapped and compared. -/
theorem parallelModularYield : Obligations.ParallelModularYield := by
  intro c rn rd rm s hs
  and_intros <;> exact wrapLanes_of_exec hs rfl

/-- Settles O31: the operation of each instruction, its lanes halved. -/
theorem parallelHalvingYield : Obligations.ParallelHalvingYield := by
  intro c rn rd rm s hs
  and_intros <;> exact halfLanes_of_exec hs rfl

end Sys2Proof.Machine
end

section
/-! Proofs. The decoder undoes the encoder: O9. -/

namespace Sys2Proof

set_option Elab.async false

/-! ## Reading a field -/

theorem opAt_eq {n : Nat} (w : BitVec n) (lo len : Nat) : opAt w lo len = w.toNat / 2 ^ lo % 2 ^ len := by
  rw [opAt, BitVec.extractLsb'_toNat, Nat.shiftRight_eq_div_pow]

theorem flagAt_eq {n : Nat} (w : BitVec n) (i : Nat) : flagAt w i = (opAt w i 1 == 1) := by
  rw [flagAt, opAt, Bool.eq_iff_iff, beq_iff_eq, beq_iff_eq, ← BitVec.toNat_inj]
  rfl

/-- The two parts of a field side by side are the field. -/
theorem extract_append_extract {v m : Nat} (z : BitVec (v + m)) :
    HAppend.hAppend (γ := no_index (BitVec (v + m))) (z.extractLsb' m v) (z.extractLsb' 0 m) = z :=
  BitVec.extractLsb'_append_extractLsb'

theorem beq_of_accumulates {rn : RegNum} (h : accumulates rn = true) : (rn == 15) = false := by
  simpa [accumulates] using h

theorem toFin_high_low (r : RegNum) :
    ((regBits r).extractLsb' 3 1 ++ (regBits r).extractLsb' 0 3 : BitVec 4).toFin = r :=
  congrArg BitVec.toFin (extract_append_extract (v := 1) (m := 3) (regBits r))

/-! ## The parts of an encoding -/

/-- A part of an encoding: a field, and how its bits read as flags. -/
structure Part where
  width : Nat
  bits : BitVec width
  bitAt : Nat → Bool
  bitAt_eq : ∀ i, i < width → bitAt i = (bits.extractLsb' i 1 == 1#1)

/-- The part that a field writes. -/
def Part.field {n : Nat} (x : BitVec n) : Part := ⟨n, x, fun i => x.extractLsb' i 1 == 1#1, fun _ _ => rfl⟩

theorem bit_beq_one (b : Bool) : (bit b == 1#1) = b := by cases b <;> rfl

/-- The part that a flag writes: its bit reads back as the flag. -/
def Part.flag (b : Bool) : Part := ⟨1, bit b, fun _ => b, fun i hi => by
  obtain rfl : i = 0 := Nat.lt_one_iff.mp hi
  rw [BitVec.extractLsb'_eq_self, bit_beq_one]⟩

/-- The `len` bits of a field from bit `lo` up. -/
def sliceOf {n : Nat} (x : BitVec n) (lo len : Nat) : BitVec len :=
  if h : lo = 0 ∧ n = len then h.2 ▸ x else x.extractLsb' lo len

/-- Parts side by side, the lowest first. -/
abbrev Parts := List Part

/-- The number that the parts write. -/
def Parts.value : Parts → Nat
  | [] => 0
  | p :: ps => p.bits.toNat + 2 ^ p.width * Parts.value ps

/-- The `len` bits of the parts from bit `lo` up. -/
def Parts.field : Parts → (lo len : Nat) → BitVec len
  | [], _, len => 0#len
  | ⟨n, x, _, _⟩ :: ps, lo, len => match n - lo with
    | 0 => Parts.field ps (lo - n) len
    | k + 1 => match len - (k + 1) with
      | 0 => sliceOf x lo len
      | r + 1 => BitVec.ofNat len (x.toNat / 2 ^ lo + 2 ^ (k + 1) * (Parts.field ps 0 (r + 1)).toNat)

/-- Bit `i` of the parts. -/
def Parts.bitAt : Parts → Nat → Bool
  | [], _ => false
  | ⟨n, _, f, _⟩ :: ps, i => match n - i with
    | 0 => Parts.bitAt ps (i - n)
    | _ + 1 => f i

/-- `w` is the parts side by side. -/
def Consists {n : Nat} (w : BitVec n) (ps : Parts) : Prop := w.toNat = ps.value

theorem consists_field {n : Nat} (x : BitVec n) : Consists x [.field x] := by
  simp only [Consists, Parts.value, Nat.mul_zero, Nat.add_zero]
  rfl

theorem Consists.append {v m : Nat} {x : BitVec v} {ps : Parts} (h : Consists x ps) (y : BitVec m) :
    Consists (HAppend.hAppend (γ := no_index (BitVec (v + m))) x y) (.field y :: ps) := by
  rw [Consists, BitVec.toNat_append, ← Nat.shiftLeft_add_eq_or_of_lt y.isLt, Nat.shiftLeft_eq, h, Parts.value,
    Nat.mul_comm, Nat.add_comm]
  rfl

theorem Consists.appendFlag {v : Nat} {x : BitVec v} {ps : Parts} (h : Consists x ps) (b : Bool) :
    Consists (HAppend.hAppend (γ := no_index (BitVec (v + 1))) x (bit b)) (.flag b :: ps) :=
  h.append (bit b)

theorem sliceOf_eq {n : Nat} (x : BitVec n) (lo len : Nat) : sliceOf x lo len = x.extractLsb' lo len := by
  unfold sliceOf
  split
  next h =>
    obtain ⟨rfl, rfl⟩ := h
    exact BitVec.extractLsb'_eq_self.symm
  next => rfl

theorem Parts.toNat_field (ps : Parts) (lo len : Nat) : (ps.field lo len).toNat = ps.value / 2 ^ lo % 2 ^ len := by
  fun_induction Parts.field ps lo len with
  | case1 => simp [Parts.value]
  | case2 n x f hf ps lo len hn ih =>
    obtain ⟨k, rfl⟩ := Nat.exists_eq_add_of_le (Nat.le_of_sub_eq_zero hn)
    rw [ih, Parts.value, pow_add, ← Nat.div_div_eq_div_mul, Nat.add_mul_div_left _ _ (by positivity),
      Nat.div_eq_of_lt x.isLt, Nat.zero_add, Nat.add_sub_cancel_left]
  | case3 n x f hf ps lo len k hn hr =>
    obtain ⟨r, hr⟩ := Nat.exists_eq_add_of_le (Nat.le_of_sub_eq_zero hr)
    have hpow : 2 ^ n = 2 ^ lo * (2 ^ len * 2 ^ r) := by rw [← pow_add, ← pow_add, show n = lo + (len + r) by omega]
    rw [sliceOf_eq, BitVec.extractLsb'_toNat, Nat.shiftRight_eq_div_pow, Parts.value, hpow, Nat.mul_assoc,
      Nat.add_mul_div_left _ _ (by positivity), Nat.mul_assoc, Nat.add_mul_mod_self_left]
  | case4 n x f hf ps lo len k hn r hr ih =>
    have hlen : len = k + 1 + (r + 1) := by omega
    have hpow : 2 ^ n = 2 ^ lo * 2 ^ (k + 1) := by rw [← pow_add, show n = lo + (k + 1) by omega]
    rw [BitVec.toNat_ofNat, ih, Parts.value, hpow, Nat.mul_assoc, Nat.add_mul_div_left _ _ (by positivity),
      pow_zero, Nat.div_one, hlen, pow_add 2 (k + 1), Nat.mod_mul, Nat.mod_mul, Nat.add_mul_mod_self_left,
      Nat.add_mul_mod_self_left, Nat.add_mul_div_left _ _ (by positivity),
      Nat.add_mul_div_left _ _ (by positivity), Nat.add_mod_mod]

theorem Parts.bitAt_eq (ps : Parts) (i : Nat) : ps.bitAt i = (ps.field i 1 == 1#1) := by
  fun_induction Parts.bitAt ps i with
  | case1 => rfl
  | case2 n x f hf ps i hn ih => simp only [ih, Parts.field, hn]
  | case3 n x f hf ps i k hn =>
    simp only [Parts.field, hn, show 1 - (k + 1) = 0 by omega, sliceOf_eq]
    exact hf i (by omega)

section
variable {n : Nat} {w : BitVec n} {ps : Parts} (hw : Consists w ps)
include hw

theorem Consists.field (lo len : Nat) : w.extractLsb' lo len = ps.field lo len := by
  rw [← BitVec.toNat_inj, BitVec.extractLsb'_toNat, Nat.shiftRight_eq_div_pow, hw, ps.toNat_field]

theorem Consists.opAt (lo len : Nat) : opAt w lo len = (ps.field lo len).toNat := by
  rw [Sys2Proof.opAt, hw.field]

theorem Consists.flagAt (i : Nat) : flagAt w i = ps.bitAt i := by
  rw [Sys2Proof.flagAt, hw.field, ps.bitAt_eq]

theorem Consists.regAt (lo : Nat) : regAt w lo = (ps.field lo 4).toFin := by
  rw [Sys2Proof.regAt, hw.field]

theorem Consists.lowAt (lo : Nat) : lowAt w lo = (ps.field lo 3).toFin := by
  rw [Sys2Proof.lowAt, hw.field]

end

/-! A part that the encoder wrote reads back as what it was written from. -/

theorem toFin_regBits (r : RegNum) : (regBits r).toFin = r := rfl

theorem toFin_lowBits (r : LowReg) : (lowBits r).toFin = r := rfl

theorem shiftType_ofBits_bits (ty : ShiftType) : ShiftType.ofBits ty.bits = ty := by cases ty <;> rfl

theorem indexing_ofBits_bits (idx : Indexing) : Indexing.ofBits idx.p idx.w = some idx := by cases idx <;> rfl

/-- CPY holds two low registers, so it is not a form with a high one. -/
theorem someHigh_low (ld lm : LowReg) :
    someHigh (0#1 ++ lowBits ld : BitVec 4).toFin
      (BitVec.ofNat 4 ((lowBits lm).toNat / 2 ^ 0 + 2 ^ 3 * (0#1).toNat)).toFin = false := by
  revert ld lm; decide

/-! ## What an encoding reads back as -/

/-- The decoder reads the words of the instruction back as the instruction. -/
def Instr.ReadsBack (i : Instr) : Prop :=
  match i.code with
  | .arm w => decodeArm w = some i
  | .thumb h => decodeThumbHalf h = some i
  | .pair h next => decodeThumbPair h next = some i

section
variable {i : Instr} {ps : Parts}

theorem readsBack_arm {e : Word} (hcode : i.code = .arm e) (hparts : Consists e ps)
    (hread : ∀ w : Word, Consists w ps → decodeArm w = some i) : i.ReadsBack := by
  rw [Instr.ReadsBack, hcode]
  exact hread e hparts

theorem readsBack_thumb {e : Half} (hcode : i.code = .thumb e) (hparts : Consists e ps)
    (hread : ∀ w : Half, Consists w ps → decodeThumbHalf w = some i) : i.ReadsBack := by
  rw [Instr.ReadsBack, hcode]
  exact hread e hparts

theorem readsBack_pair {e e' : Half} {qs : Parts} (hcode : i.code = .pair e e') (hparts : Consists e ps)
    (hrest : Consists e' qs)
    (hread : ∀ w w' : Half, Consists w ps → Consists w' qs → decodeThumbPair w w' = some i) : i.ReadsBack := by
  rw [Instr.ReadsBack, hcode]
  exact hread e e' hparts hrest

end

/-! ## The part of the decoder that reads a word -/

section
variable {c : Cond} {w : Word} (hc : w.extractLsb' 28 4 = c.bits)
include hc

theorem decodeArm_class0 (h25 : opAt w 25 3 = 0) : decodeArm w = decodeClass0 c w := by
  rw [decodeArm, hc, Machine.ofBits_bits, h25]
  rfl

theorem decodeArm_class1 (h25 : opAt w 25 3 = 1) : decodeArm w = decodeClass1 c w := by
  rw [decodeArm, hc, Machine.ofBits_bits, h25]
  rfl

theorem decodeArm_wordImm (h25 : opAt w 25 3 = 2) :
    decodeArm w = some (decodeWord c w (.imm (w.extractLsb' 0 12))) := by
  rw [decodeArm, hc, Machine.ofBits_bits, h25]
  rfl

theorem decodeArm_wordReg (h25 : opAt w 25 3 = 3) (h4 : flagAt w 4 = false) :
    decodeArm w = some (decodeWord c w (.reg (shiftByImmAt w))) := by
  rw [decodeArm, hc, Machine.ofBits_bits, h25, h4]
  rfl

theorem decodeArm_media (h25 : opAt w 25 3 = 3) (h4 : flagAt w 4 = true) : decodeArm w = decodeMedia c w := by
  rw [decodeArm, hc, Machine.ofBits_bits, h25, h4]
  rfl

theorem decodeArm_block (h25 : opAt w 25 3 = 4) : decodeArm w = decodeBlock c w := by
  rw [decodeArm, hc, Machine.ofBits_bits, h25]
  rfl

theorem decodeArm_branch (h25 : opAt w 25 3 = 5) :
    decodeArm w = some (if flagAt w 24 then .bl c (w.extractLsb' 0 24) else .b c (w.extractLsb' 0 24)) := by
  rw [decodeArm, hc, Machine.ofBits_bits, h25]
  rfl

theorem decodeArm_cpTransfer (h25 : opAt w 25 3 = 6) : decodeArm w = decodeCpTransfer c w := by
  rw [decodeArm, hc, Machine.ofBits_bits, h25]
  rfl

theorem decodeArm_cpOp (h25 : opAt w 25 3 = 7) (h24 : flagAt w 24 = false) : decodeArm w = decodeCpOp c w := by
  rw [decodeArm, hc, Machine.ofBits_bits, h25, h24]
  rfl

theorem decodeArm_swi (h25 : opAt w 25 3 = 7) (h24 : flagAt w 24 = true) :
    decodeArm w = some (.swi c (w.extractLsb' 0 24)) := by
  rw [decodeArm, hc, Machine.ofBits_bits, h25, h24]
  rfl

end

section
variable {c : Cond} {w : Word}

theorem inMiscSpace_eq {op : Nat} {s : Bool} (h23 : opAt w 23 2 = op) (h20 : flagAt w 20 = s) :
    inMiscSpace w = (op == 2 && !s) := by
  rw [inMiscSpace, h23, h20]

theorem decodeClass0_mulSwap (h4 : flagAt w 4 = true) (h7 : flagAt w 7 = true) (h5 : opAt w 5 2 = 0) :
    decodeClass0 c w = decodeMulSwap c w := by
  rw [decodeClass0, h4, h7, h5]
  rfl

theorem decodeClass0_half {sh : Nat} (h4 : flagAt w 4 = true) (h7 : flagAt w 7 = true) (h5 : opAt w 5 2 = sh + 1) :
    decodeClass0 c w = decodeHalf c w := by
  rw [decodeClass0, h4, h7, h5]
  rfl

theorem decodeClass0_misc (h4 : flagAt w 4 = true) (h7 : flagAt w 7 = false) (hm : inMiscSpace w = true) :
    decodeClass0 c w = decodeMisc c w := by
  rw [decodeClass0, h4, h7, hm]
  rfl

theorem decodeClass0_shiftReg (h4 : flagAt w 4 = true) (h7 : flagAt w 7 = false) (hm : inMiscSpace w = false) :
    decodeClass0 c w = decodeDp c w (.shiftReg (shiftByRegAt w)) := by
  rw [decodeClass0, h4, h7, hm]
  rfl

theorem decodeClass0_halfMul (h4 : flagAt w 4 = false) (h7 : flagAt w 7 = true) (hm : inMiscSpace w = true) :
    decodeClass0 c w = decodeHalfMul c w := by
  rw [decodeClass0, h4, h7, hm]
  rfl

theorem decodeClass0_status (h7 : flagAt w 7 = false) (h4 : flagAt w 4 = false) (hop : opAt w 4 4 = 0)
    (hm : inMiscSpace w = true) : decodeClass0 c w = decodeStatus c w := by
  rw [decodeClass0, h4, h7, hm, hop]
  rfl

/-- BXJ stands with BX and BLX though its bit 4 is 0. -/
theorem decodeClass0_bxj (h7 : flagAt w 7 = false) (h4 : flagAt w 4 = false) (hop : opAt w 4 4 = 2)
    (hm : inMiscSpace w = true) : decodeClass0 c w = decodeMisc c w := by
  rw [decodeClass0, h4, h7, hm, hop]
  rfl

theorem decodeClass0_shiftImm (h4 : flagAt w 4 = false) (hm : inMiscSpace w = false) :
    decodeClass0 c w = decodeDp c w (.shiftImm (shiftByImmAt w)) := by
  rw [decodeClass0, h4, hm]
  rfl

theorem decodeClass1_dp (hm : inMiscSpace w = false) : decodeClass1 c w = decodeDp c w (.imm (rotatedImmAt w)) := by
  rw [decodeClass1, hm]
  rfl

theorem decodeMedia_parallel (h23 : opAt w 23 2 = 0) : decodeMedia c w = decodeParallel c w := by
  rw [decodeMedia, h23]
  rfl

theorem decodeMedia_pack (h23 : opAt w 23 2 = 1) : decodeMedia c w = decodePack c w := by
  rw [decodeMedia, h23]
  rfl

theorem decodeMedia_dualMul (h23 : opAt w 23 2 = 2) : decodeMedia c w = decodeDualMul c w := by
  rw [decodeMedia, h23]
  rfl

theorem decodeMedia_sad (h23 : opAt w 23 2 = 3) : decodeMedia c w = decodeSad c w := by
  rw [decodeMedia, h23]
  rfl

theorem decodePack_extend (h4 : opAt w 4 2 = 3) (h6 : flagAt w 6 = true) (h7 : opAt w 7 3 = 0) :
    decodePack c w = decodeExtend c w := by
  rw [decodePack, h4, h6, h7]
  rfl

theorem decodeArm_unconditional (hc : w.extractLsb' 28 4 = 15#4) : decodeArm w = decodeUnconditional w := by
  rw [decodeArm, hc]
  rfl

end

/-! Thumb: the halfword's class (R160). -/

section
variable {h : Half}

theorem decodeThumbHalf_cond (h12 : opAt h 12 4 = 13) : decodeThumbHalf h = decodeThumbCond h := by
  rw [decodeThumbHalf, h12]
  rfl

theorem decodeThumbHalf_high (h12 : opAt h 12 4 = 4) (h11 : opAt h 11 5 = 8) (h10 : flagAt h 10 = true) :
    decodeThumbHalf h = decodeThumbHigh h := by
  rw [decodeThumbHalf, h12, h11, h10]
  rfl

theorem decodeThumbHalf_alu (h12 : opAt h 12 4 = 4) (h11 : opAt h 11 5 = 8) (h10 : flagAt h 10 = false) :
    decodeThumbHalf h = some (decodeThumbAlu h) := by
  rw [decodeThumbHalf, h12, h11, h10]
  rfl

theorem decodeThumbHalf_misc0 (h12 : opAt h 12 4 = 11) (h11 : opAt h 11 5 = 22) :
    decodeThumbHalf h = decodeThumbMisc0 h := by
  rw [decodeThumbHalf, h12, h11]
  rfl

theorem decodeThumbHalf_misc1 (h12 : opAt h 12 4 = 11) (h11 : opAt h 11 5 = 23) :
    decodeThumbHalf h = decodeThumbMisc1 h := by
  rw [decodeThumbHalf, h12, h11]
  rfl

end

/-! ## The rows, by the part of the decoder that reads them -/

/-- A data processing row is read by `decodeDp`, whatever its second operand. -/
theorem readsBack_of_dp {i : Instr} {c : Cond} {opc : BitVec 4} {s : BitVec 1} {rn rd : BitVec 4} {op : Operand2}
    (hcode : i.code = .arm (dpCode c opc s rn rd op))
    (hmisc : ((opc.extractLsb' 2 2).toNat == 2 && !(s == 1#1)) = false)
    (hread : ∀ w : Word, opAt w 21 4 = opc.toNat → flagAt w 20 = (s == 1#1) → regAt w 16 = rn.toFin →
      regAt w 12 = rd.toFin → decodeDp c w op = some i) : i.ReadsBack := by
  cases op
  all_goals
    apply readsBack_arm hcode
    case hparts =>
      repeat first | with_reducible apply Consists.appendFlag | apply Consists.append
      apply consists_field
    intro w hw
    have h20 : flagAt w 20 = (s == 1#1) := congrArg (· == 1#1) (hw.field 20 1)
    have hm : inMiscSpace w = false := (inMiscSpace_eq (hw.opAt 23 2) h20).trans hmisc
    have hdp := hread w (hw.opAt 21 4) h20 (hw.regAt 16) (hw.regAt 12)
  case shiftImm op =>
    rw [decodeArm_class0 (hw.field 28 4) (hw.opAt 25 3), decodeClass0_shiftImm (hw.flagAt 4) hm, shiftByImmAt,
      hw.field 7 5, hw.field 5 2, hw.regAt 0]
    rw [← hdp]
    exact congrArg (fun ty => decodeDp c w (.shiftImm ⟨op.amount, ty, op.rm⟩)) (shiftType_ofBits_bits op.ty)
  case shiftReg op =>
    rw [decodeArm_class0 (hw.field 28 4) (hw.opAt 25 3), decodeClass0_shiftReg (hw.flagAt 4) (hw.flagAt 7) hm,
      shiftByRegAt, hw.regAt 8, hw.field 5 2, hw.regAt 0]
    rw [← hdp]
    exact congrArg (fun ty => decodeDp c w (.shiftReg ⟨op.rs, ty, op.rm⟩)) (shiftType_ofBits_bits op.ty)
  case imm op =>
    rw [decodeArm_class1 (hw.field 28 4) (hw.opAt 25 3), decodeClass1_dp hm, rotatedImmAt, hw.field 8 4, hw.field 0 8]
    exact hdp

/-- R135 to R137: the operations that write a register. -/
theorem readsBack_dataProcessing (c : Cond) (s : Bool) (rd : RegNum) (op : Operand2) :
    (∀ rn, (Instr.and c s rn rd op).ReadsBack) ∧ (∀ rn, (Instr.eor c s rn rd op).ReadsBack) ∧
    (∀ rn, (Instr.sub c s rn rd op).ReadsBack) ∧ (∀ rn, (Instr.rsb c s rn rd op).ReadsBack) ∧
    (∀ rn, (Instr.add c s rn rd op).ReadsBack) ∧ (∀ rn, (Instr.adc c s rn rd op).ReadsBack) ∧
    (∀ rn, (Instr.sbc c s rn rd op).ReadsBack) ∧ (∀ rn, (Instr.rsc c s rn rd op).ReadsBack) ∧
    (∀ rn, (Instr.orr c s rn rd op).ReadsBack) ∧ (∀ rn, (Instr.bic c s rn rd op).ReadsBack) ∧
    (Instr.mov c s rd op).ReadsBack ∧ (Instr.mvn c s rd op).ReadsBack := by
  and_intros
  all_goals intros
  all_goals
    apply readsBack_of_dp rfl rfl
    intro w h21 h20 hrn hrd
    rw [decodeDp, h21, h20, hrn, hrd, bit_beq_one]
    rfl

/-- R135 to R137: the compares. -/
theorem readsBack_compare (c : Cond) (rn : RegNum) (op : Operand2) :
    (Instr.tst c rn op).ReadsBack ∧ (Instr.teq c rn op).ReadsBack ∧ (Instr.cmp c rn op).ReadsBack ∧
    (Instr.cmn c rn op).ReadsBack := by
  and_intros
  all_goals
    apply readsBack_of_dp rfl rfl
    intro w h21 h20 hrn hrd
    rw [decodeDp, h21, h20, hrn, hrd]
    rfl

/-- R142: MSR. -/
theorem readsBack_msr (c : Cond) (fields : BitVec 4) (op : MsrOperand) :
    (Instr.msrCpsr c fields op).ReadsBack ∧ (Instr.msrSpsr c fields op).ReadsBack := by
  and_intros
  all_goals cases op
  all_goals
    apply readsBack_arm rfl
    case hparts =>
      repeat first | with_reducible apply Consists.appendFlag | apply Consists.append
      apply consists_field
    intro w hw
    have hm : inMiscSpace w = true := inMiscSpace_eq (hw.opAt 23 2) (hw.flagAt 20)
  case refine_1.reg.hread | refine_2.reg.hread =>
    rw [decodeArm_class0 (hw.field 28 4) (hw.opAt 25 3),
      decodeClass0_status (hw.flagAt 7) (hw.flagAt 4) (hw.opAt 4 4) hm, decodeStatus, hw.opAt 21 2, hw.opAt 4 12,
      hw.field 16 4, hw.regAt 0]
    rfl
  case refine_1.imm.hread | refine_2.imm.hread =>
    rw [decodeArm_class1 (hw.field 28 4) (hw.opAt 25 3), decodeClass1, hm, rotatedImmAt, hw.opAt 21 2, hw.opAt 12 4,
      hw.field 16 4, hw.field 8 4, hw.field 0 8]
    rfl

/-- A halfword, signed byte or doubleword row is read by `decodeHalfOp`, whatever its offset. -/
theorem readsBack_of_half {i : Instr} {c : Cond} {idx : Indexing} {u : Bool} {l : BitVec 1} {rn rd : RegNum}
    {sh : BitVec 2} {off : HalfOffset} {k : Nat} (hcode : i.code = .arm (halfCode c idx u l rn rd sh off))
    (hsh : sh.toNat = k + 1)
    (hread : ∀ w : Word, flagAt w 20 = (l == 1#1) → opAt w 5 2 = sh.toNat → flagAt w 23 = u → regAt w 16 = rn →
      regAt w 12 = rd → decodeHalfOp c idx w off = some i) : i.ReadsBack := by
  cases off
  all_goals
    apply readsBack_arm hcode
    case hparts =>
      repeat first | with_reducible apply Consists.appendFlag | apply Consists.append
      apply consists_field
    intro w hw
    have h20 : flagAt w 20 = (l == 1#1) := congrArg (· == 1#1) (hw.field 20 1)
    have h5 : opAt w 5 2 = sh.toNat := hw.opAt 5 2
    have hhalf := hread w h20 h5 (hw.flagAt 23) (hw.regAt 16) (hw.regAt 12)
    have hidx : Indexing.ofBits (flagAt w 24) (flagAt w 21) = some idx := by
      rw [hw.flagAt 24, hw.flagAt 21]
      exact indexing_ofBits_bits idx
    rw [decodeArm_class0 (hw.field 28 4) (hw.opAt 25 3),
      decodeClass0_half (hw.flagAt 4) (hw.flagAt 7) (h5.trans hsh), decodeHalf, hidx, hw.flagAt 22]
  case imm imm =>
    rw [hw.field 8 4, hw.field 0 4, ← hhalf]
    exact congrArg (fun imm => decodeHalfOp c idx w (.imm imm)) (extract_append_extract (v := 4) (m := 4) imm)
  case reg rm =>
    rw [hw.opAt 8 4, hw.regAt 0]
    exact hhalf

/-- R141: the transfers of halfwords, signed bytes and doublewords. -/
theorem readsBack_halfTransfer (c : Cond) (idx : Indexing) (u : Bool) (rn rd : RegNum) (off : HalfOffset) :
    (Instr.strh c idx u rn rd off).ReadsBack ∧ (Instr.ldrh c idx u rn rd off).ReadsBack ∧
    (Instr.ldrd c idx u rn rd off).ReadsBack ∧ (Instr.strd c idx u rn rd off).ReadsBack ∧
    (Instr.ldrsb c idx u rn rd off).ReadsBack ∧ (Instr.ldrsh c idx u rn rd off).ReadsBack := by
  and_intros
  all_goals
    apply readsBack_of_half rfl rfl
    intro w h20 h5 h23 hrn hrd
    rw [decodeHalfOp, h20, h5, h23, hrn, hrd]
    rfl

/-- A word or byte row is read by `decodeWord`, whatever its offset. -/
theorem readsBack_of_word {i : Instr} {c : Cond} {p b wl l : BitVec 1} {u : Bool} {rn rd : RegNum} {off : WordOffset}
    (hcode : i.code = .arm (wordCode c p u b wl l rn rd off))
    (hread : ∀ w : Word, wordForm w = Indexing.ofBits (p == 1#1) (wl == 1#1) → flagAt w 22 = (b == 1#1) →
      flagAt w 20 = (l == 1#1) → flagAt w 23 = u → regAt w 16 = rn → regAt w 12 = rd → decodeWord c w off = i) :
    i.ReadsBack := by
  cases off
  all_goals
    apply readsBack_arm hcode
    case hparts =>
      repeat first | with_reducible apply Consists.appendFlag | apply Consists.append
      apply consists_field
    intro w hw
    have hform : wordForm w = Indexing.ofBits (p == 1#1) (wl == 1#1) :=
      congrArg₂ (fun p wl : BitVec 1 => Indexing.ofBits (p == 1#1) (wl == 1#1)) (hw.field 24 1) (hw.field 21 1)
    have hword := hread w hform (congrArg (· == 1#1) (hw.field 22 1)) (congrArg (· == 1#1) (hw.field 20 1))
      (hw.flagAt 23) (hw.regAt 16) (hw.regAt 12)
  case imm imm =>
    rw [decodeArm_wordImm (hw.field 28 4) (hw.opAt 25 3), hw.field 0 12]
    exact congrArg some hword
  case reg op =>
    rw [decodeArm_wordReg (hw.field 28 4) (hw.opAt 25 3) (hw.flagAt 4), shiftByImmAt, hw.field 7 5, hw.field 5 2,
      hw.regAt 0, ← hword]
    exact congrArg (fun ty => some (decodeWord c w (.reg ⟨op.amount, ty, op.rm⟩))) (shiftType_ofBits_bits op.ty)

/-- R147: the transfers of words and bytes with an addressing form. -/
theorem readsBack_wordTransfer (c : Cond) (idx : Indexing) (u : Bool) (rn rd : RegNum) (off : WordOffset) :
    (Instr.str c idx u rn rd off).ReadsBack ∧ (Instr.ldr c idx u rn rd off).ReadsBack ∧
    (Instr.strb c idx u rn rd off).ReadsBack ∧ (Instr.ldrb c idx u rn rd off).ReadsBack := by
  and_intros
  all_goals
    apply readsBack_of_word rfl
    intro w hform h22 h20 h23 hrn hrd
    rw [decodeWord, hform, h22, h20, h23, hrn, hrd, bit_beq_one, bit_beq_one, indexing_ofBits_bits]
    rfl

/-- R147: the T forms. -/
theorem readsBack_userTransfer (c : Cond) (u : Bool) (rn rd : RegNum) (off : WordOffset) :
    (Instr.strt c u rn rd off).ReadsBack ∧ (Instr.ldrt c u rn rd off).ReadsBack ∧
    (Instr.strbt c u rn rd off).ReadsBack ∧ (Instr.ldrbt c u rn rd off).ReadsBack := by
  and_intros
  all_goals
    apply readsBack_of_word rfl
    intro w hform h22 h20 h23 hrn hrd
    rw [decodeWord, hform, h22, h20, h23, hrn, hrd]
    rfl

/-- R134: PLD. -/
theorem readsBack_pld (u : Bool) (rn : RegNum) (off : WordOffset) : (Instr.pld u rn off).ReadsBack := by
  cases off
  all_goals
    apply readsBack_arm rfl
    case hparts =>
      repeat first | with_reducible apply Consists.appendFlag | apply Consists.append
      apply consists_field
    intro w hw
    rw [decodeArm_unconditional (hw.field 28 4), decodeUnconditional, hw.opAt 25 3, hw.flagAt 23, hw.regAt 16,
      hw.flagAt 24, hw.opAt 20 3, hw.opAt 12 4]
  case imm imm =>
    rw [hw.field 0 12]
    rfl
  case reg op =>
    rw [hw.flagAt 4, shiftByImmAt, hw.field 7 5, hw.field 5 2, hw.regAt 0]
    exact congrArg (fun ty => some (Instr.pld u rn (.reg ⟨op.amount, ty, op.rm⟩))) (shiftType_ofBits_bits op.ty)

/-- R140, R146: the multiplies, swaps and exclusives. -/
theorem readsBack_mulSwap (c : Cond) (a : RegNum) :
    (∀ s rs rm, (Instr.mul c s a rs rm).ReadsBack) ∧ (∀ s b rs rm, (Instr.mla c s a b rs rm).ReadsBack) ∧
    (∀ b rs rm, (Instr.umaal c a b rs rm).ReadsBack) ∧ (∀ s b rs rm, (Instr.umull c s a b rs rm).ReadsBack) ∧
    (∀ s b rs rm, (Instr.umlal c s a b rs rm).ReadsBack) ∧ (∀ s b rs rm, (Instr.smull c s a b rs rm).ReadsBack) ∧
    (∀ s b rs rm, (Instr.smlal c s a b rs rm).ReadsBack) ∧ (∀ b rm, (Instr.swp c a b rm).ReadsBack) ∧
    (∀ b rm, (Instr.swpb c a b rm).ReadsBack) ∧ (∀ b rm, (Instr.strex c a b rm).ReadsBack) ∧
    (∀ b, (Instr.ldrex c a b).ReadsBack) := by
  and_intros
  all_goals intros
  all_goals
    apply readsBack_arm rfl
    case hparts =>
      repeat first | with_reducible apply Consists.appendFlag | apply Consists.append
      apply consists_field
    intro w hw
    have ha : regAt w 16 = a := hw.regAt 16
    rw [decodeArm_class0 (hw.field 28 4) (hw.opAt 25 3),
      decodeClass0_mulSwap (hw.flagAt 4) (hw.flagAt 7) (hw.opAt 5 2), decodeMulSwap, hw.flagAt 20, ha, hw.regAt 12,
      hw.regAt 8, hw.regAt 0, hw.flagAt 24, hw.opAt 21 3]
    rfl

/-- R143, R144: branch-exchange, CLZ, saturating add and subtract. -/
theorem readsBack_misc (c : Cond) (rm : RegNum) :
    (Instr.bx c rm).ReadsBack ∧ (Instr.blxReg c rm).ReadsBack ∧ (∀ rd, (Instr.clz c rd rm).ReadsBack) ∧
    (∀ rn rd, (Instr.qadd c rn rd rm).ReadsBack) ∧ (∀ rn rd, (Instr.qsub c rn rd rm).ReadsBack) ∧
    (∀ rn rd, (Instr.qdadd c rn rd rm).ReadsBack) ∧ (∀ rn rd, (Instr.qdsub c rn rd rm).ReadsBack) := by
  and_intros
  all_goals intros
  all_goals
    apply readsBack_arm rfl
    case hparts =>
      repeat first | with_reducible apply Consists.appendFlag | apply Consists.append
      apply consists_field
    intro w hw
    have hrm : regAt w 0 = rm := hw.regAt 0
    rw [decodeArm_class0 (hw.field 28 4) (hw.opAt 25 3),
      decodeClass0_misc (hw.flagAt 4) (hw.flagAt 7) (inMiscSpace_eq (hw.opAt 23 2) (hw.flagAt 20)), decodeMisc,
      hw.regAt 16, hw.regAt 12, hrm, hw.opAt 4 4, hw.opAt 21 2, hw.opAt 8 12, hw.opAt 8 4]
    rfl

theorem readsBack_bxj (c : Cond) (rm : RegNum) : (Instr.bxj c rm).ReadsBack := by
  apply readsBack_arm rfl
  case hparts =>
    repeat first | with_reducible apply Consists.appendFlag | apply Consists.append
    apply consists_field
  intro w hw
  rw [decodeArm_class0 (hw.field 28 4) (hw.opAt 25 3), decodeClass0_bxj (hw.flagAt 7) (hw.flagAt 4) (hw.opAt 4 4)
    (inMiscSpace_eq (hw.opAt 23 2) (hw.flagAt 20)), decodeMisc, hw.opAt 4 4, hw.opAt 21 2, hw.opAt 8 12, hw.regAt 0]
  rfl

theorem readsBack_bkpt (imm : BitVec 16) : (Instr.bkpt imm).ReadsBack := by
  apply readsBack_arm rfl
  case hparts =>
    repeat first | with_reducible apply Consists.appendFlag | apply Consists.append
    apply consists_field
  intro w hw
  rw [decodeArm_class0 (c := .al) (hw.field 28 4) (hw.opAt 25 3), decodeClass0_misc (hw.flagAt 4) (hw.flagAt 7)
    (inMiscSpace_eq (hw.opAt 23 2) (hw.flagAt 20)), decodeMisc, hw.opAt 4 4, hw.opAt 21 2, hw.field 8 12, hw.field 0 4]
  exact congrArg (fun imm => some (Instr.bkpt imm)) (extract_append_extract (v := 12) (m := 4) imm)

/-- R145: the signed halfword multiplies. -/
theorem readsBack_halfMul (c : Cond) (a rs rm : RegNum) :
    (∀ b y x, (Instr.smlaxy c a b rs y x rm).ReadsBack) ∧ (∀ b y, (Instr.smlawy c a b rs y rm).ReadsBack) ∧
    (∀ y, (Instr.smulwy c a rs y rm).ReadsBack) ∧ (∀ b y x, (Instr.smlalxy c a b rs y x rm).ReadsBack) ∧
    (∀ y x, (Instr.smulxy c a rs y x rm).ReadsBack) := by
  and_intros
  all_goals intros
  all_goals
    apply readsBack_arm rfl
    case hparts =>
      repeat first | with_reducible apply Consists.appendFlag | apply Consists.append
      apply consists_field
    intro w hw
    have ha : regAt w 16 = a := hw.regAt 16
    have hrs : regAt w 8 = rs := hw.regAt 8
    have hrm : regAt w 0 = rm := hw.regAt 0
    rw [decodeArm_class0 (hw.field 28 4) (hw.opAt 25 3),
      decodeClass0_halfMul (hw.flagAt 4) (hw.flagAt 7) (inMiscSpace_eq (hw.opAt 23 2) (hw.flagAt 20)), decodeHalfMul,
      ha, hw.regAt 12, hrs, hrm, hw.flagAt 6, hw.flagAt 5, hw.opAt 21 2]
    rfl

/-- R142: MRS. -/
theorem readsBack_mrs (c : Cond) (rd : RegNum) :
    (Instr.mrsCpsr c rd).ReadsBack ∧ (Instr.mrsSpsr c rd).ReadsBack := by
  and_intros
  all_goals
    apply readsBack_arm rfl
    case hparts =>
      repeat first | with_reducible apply Consists.appendFlag | apply Consists.append
      apply consists_field
    intro w hw
    rw [decodeArm_class0 (hw.field 28 4) (hw.opAt 25 3),
      decodeClass0_status (hw.flagAt 7) (hw.flagAt 4) (hw.opAt 4 4) (inMiscSpace_eq (hw.opAt 23 2) (hw.flagAt 20)),
      decodeStatus, hw.opAt 21 2, hw.opAt 16 4, hw.opAt 0 12, hw.regAt 12]
    rfl

/-- A row of R148 is read by `decodeParallel`. -/
theorem readsBack_of_parallel {i : Instr} {c : Cond} {a b : BitVec 8} {rn rd rm : RegNum}
    (hcode : i.code = .arm (c.bits ++ a ++ regBits rn ++ regBits rd ++ b ++ regBits rm))
    (h25 : (a.extractLsb' 5 3).toNat = 3) (h23 : (a.extractLsb' 3 2).toNat = 0)
    (h4 : (b.extractLsb' 0 1 == 1#1) = true)
    (hread : ∀ w : Word, opAt w 8 4 = (b.extractLsb' 4 4).toNat → opAt w 20 3 = (a.extractLsb' 0 3).toNat →
      opAt w 5 3 = (b.extractLsb' 1 3).toNat → regAt w 16 = rn → regAt w 12 = rd → regAt w 0 = rm →
      decodeParallel c w = some i) : i.ReadsBack := by
  apply readsBack_arm hcode
  case hparts =>
    repeat apply Consists.append
    apply consists_field
  intro w hw
  rw [decodeArm_media (hw.field 28 4) ((hw.opAt 25 3).trans h25) ((hw.flagAt 4).trans h4),
    decodeMedia_parallel ((hw.opAt 23 2).trans h23)]
  exact hread w (hw.opAt 8 4) (hw.opAt 20 3) (hw.opAt 5 3) (hw.regAt 16) (hw.regAt 12) (hw.regAt 0)

/-- R148: parallel add and subtract. -/
theorem readsBack_parallel (c : Cond) (rn rd rm : RegNum) :
    (Instr.qadd16 c rn rd rm).ReadsBack ∧ (Instr.qaddsubx c rn rd rm).ReadsBack ∧
    (Instr.qsubaddx c rn rd rm).ReadsBack ∧ (Instr.qsub16 c rn rd rm).ReadsBack ∧
    (Instr.qadd8 c rn rd rm).ReadsBack ∧ (Instr.qsub8 c rn rd rm).ReadsBack ∧ (Instr.uqadd16 c rn rd rm).ReadsBack ∧
    (Instr.uqaddsubx c rn rd rm).ReadsBack ∧ (Instr.uqsubaddx c rn rd rm).ReadsBack ∧
    (Instr.uqsub16 c rn rd rm).ReadsBack ∧ (Instr.uqadd8 c rn rd rm).ReadsBack ∧
    (Instr.uqsub8 c rn rd rm).ReadsBack ∧ (Instr.sadd16 c rn rd rm).ReadsBack ∧
    (Instr.saddsubx c rn rd rm).ReadsBack ∧ (Instr.ssubaddx c rn rd rm).ReadsBack ∧
    (Instr.ssub16 c rn rd rm).ReadsBack ∧ (Instr.sadd8 c rn rd rm).ReadsBack ∧ (Instr.ssub8 c rn rd rm).ReadsBack ∧
    (Instr.uadd16 c rn rd rm).ReadsBack ∧ (Instr.uaddsubx c rn rd rm).ReadsBack ∧
    (Instr.usubaddx c rn rd rm).ReadsBack ∧ (Instr.usub16 c rn rd rm).ReadsBack ∧
    (Instr.uadd8 c rn rd rm).ReadsBack ∧ (Instr.usub8 c rn rd rm).ReadsBack ∧ (Instr.shadd16 c rn rd rm).ReadsBack ∧
    (Instr.shaddsubx c rn rd rm).ReadsBack ∧ (Instr.shsubaddx c rn rd rm).ReadsBack ∧
    (Instr.shsub16 c rn rd rm).ReadsBack ∧ (Instr.shadd8 c rn rd rm).ReadsBack ∧
    (Instr.shsub8 c rn rd rm).ReadsBack ∧ (Instr.uhadd16 c rn rd rm).ReadsBack ∧
    (Instr.uhaddsubx c rn rd rm).ReadsBack ∧ (Instr.uhsubaddx c rn rd rm).ReadsBack ∧
    (Instr.uhsub16 c rn rd rm).ReadsBack ∧ (Instr.uhadd8 c rn rd rm).ReadsBack ∧ (Instr.uhsub8 c rn rd rm).ReadsBack := by
  and_intros
  all_goals
    apply readsBack_of_parallel rfl rfl rfl rfl
    intro w h8 h20 h5 hrn hrd hrm
    rw [decodeParallel, h8, h20, h5, hrn, hrd, hrm]
    rfl

/-- R149: pack and saturate. -/
theorem readsBack_pack (c : Cond) (rd rm : RegNum) (amount : BitVec 5) :
    (∀ rn, (Instr.pkhbt c rn rd amount rm).ReadsBack) ∧ (∀ rn, (Instr.pkhtb c rn rd amount rm).ReadsBack) ∧
    (∀ sat asr, (Instr.ssat c sat rd amount asr rm).ReadsBack) ∧
    (∀ sat asr, (Instr.usat c sat rd amount asr rm).ReadsBack) := by
  and_intros
  all_goals intros
  all_goals
    apply readsBack_arm rfl
    case hparts =>
      repeat first | with_reducible apply Consists.appendFlag | apply Consists.append
      apply consists_field
    intro w hw
    have hrd : regAt w 12 = rd := hw.regAt 12
    have hrm : regAt w 0 = rm := hw.regAt 0
    have hamount : w.extractLsb' 7 5 = amount := hw.field 7 5
    rw [decodeArm_media (hw.field 28 4) (hw.opAt 25 3) (hw.flagAt 4), decodeMedia_pack (hw.opAt 23 2), decodePack,
      hw.opAt 4 2, hw.opAt 21 2, hw.flagAt 20, hw.flagAt 6, hw.regAt 16, hrd, hrm, hamount, hw.field 16 5]
    rfl

/-- R149: saturation of halfwords, SEL, byte reversal. -/
theorem readsBack_saturateSelect (c : Cond) (rd rm : RegNum) :
    (∀ sat4, (Instr.ssat16 c sat4 rd rm).ReadsBack) ∧ (∀ sat4, (Instr.usat16 c sat4 rd rm).ReadsBack) ∧
    (∀ rn, (Instr.sel c rn rd rm).ReadsBack) ∧ (Instr.rev c rd rm).ReadsBack ∧ (Instr.rev16 c rd rm).ReadsBack ∧
    (Instr.revsh c rd rm).ReadsBack := by
  and_intros
  all_goals intros
  all_goals
    apply readsBack_arm rfl
    case hparts =>
      repeat first | with_reducible apply Consists.appendFlag | apply Consists.append
      apply consists_field
    intro w hw
    have hrd : regAt w 12 = rd := hw.regAt 12
    have hrm : regAt w 0 = rm := hw.regAt 0
    have h8 : opAt w 8 4 = 15 := hw.opAt 8 4
    rw [decodeArm_media (hw.field 28 4) (hw.opAt 25 3) (hw.flagAt 4), decodeMedia_pack (hw.opAt 23 2), decodePack,
      hw.opAt 4 2, hw.flagAt 6, h8, hw.opAt 20 3, hw.flagAt 7, hw.regAt 16, hrd, hrm, hw.field 16 4]
    rfl

/-- R150: the extends without accumulate. -/
theorem readsBack_extend (c : Cond) (rd : RegNum) (rot : BitVec 2) (rm : RegNum) :
    (Instr.sxtb16 c rd rot rm).ReadsBack ∧ (Instr.sxtb c rd rot rm).ReadsBack ∧ (Instr.sxth c rd rot rm).ReadsBack ∧
    (Instr.uxtb16 c rd rot rm).ReadsBack ∧ (Instr.uxtb c rd rot rm).ReadsBack ∧ (Instr.uxth c rd rot rm).ReadsBack := by
  and_intros
  all_goals
    apply readsBack_arm rfl
    case hparts =>
      repeat first | with_reducible apply Consists.appendFlag | apply Consists.append
      apply consists_field
    intro w hw
    have hrd : regAt w 12 = rd := hw.regAt 12
    have hrm : regAt w 0 = rm := hw.regAt 0
    have hrot : w.extractLsb' 10 2 = rot := hw.field 10 2
    rw [decodeArm_media (hw.field 28 4) (hw.opAt 25 3) (hw.flagAt 4), decodeMedia_pack (hw.opAt 23 2),
      decodePack_extend (hw.opAt 4 2) (hw.flagAt 6) (hw.opAt 7 3), decodeExtend, hw.opAt 20 3, hw.regAt 16, hrd, hrm,
      hrot]
    rfl

/-- R150: the extends with accumulate. -/
theorem readsBack_extendAdd (c : Cond) (rn rd : RegNum) (rot : BitVec 2) (rm : RegNum)
    (hacc : accumulates rn = true) :
    (Instr.sxtab16 c rn rd rot rm).ReadsBack ∧ (Instr.sxtab c rn rd rot rm).ReadsBack ∧
    (Instr.sxtah c rn rd rot rm).ReadsBack ∧ (Instr.uxtab16 c rn rd rot rm).ReadsBack ∧
    (Instr.uxtab c rn rd rot rm).ReadsBack ∧ (Instr.uxtah c rn rd rot rm).ReadsBack := by
  and_intros
  all_goals
    apply readsBack_arm rfl
    case hparts =>
      repeat first | with_reducible apply Consists.appendFlag | apply Consists.append
      apply consists_field
    intro w hw
    have hrn : regAt w 16 = rn := hw.regAt 16
    have hrd : regAt w 12 = rd := hw.regAt 12
    have hrm : regAt w 0 = rm := hw.regAt 0
    have hrot : w.extractLsb' 10 2 = rot := hw.field 10 2
    rw [decodeArm_media (hw.field 28 4) (hw.opAt 25 3) (hw.flagAt 4), decodeMedia_pack (hw.opAt 23 2),
      decodePack_extend (hw.opAt 4 2) (hw.flagAt 6) (hw.opAt 7 3), decodeExtend, hw.opAt 20 3, hrn,
      beq_of_accumulates hacc, hrd, hrm, hrot]
    rfl

/-- R151: the dual and most significant word multiplies without accumulate. -/
theorem readsBack_dualMul (c : Cond) (rs rm : RegNum) :
    (∀ rd x, (Instr.smuad c rd rs x rm).ReadsBack) ∧ (∀ rd x, (Instr.smusd c rd rs x rm).ReadsBack) ∧
    (∀ rdHi rdLo x, (Instr.smlald c rdHi rdLo rs x rm).ReadsBack) ∧
    (∀ rdHi rdLo x, (Instr.smlsld c rdHi rdLo rs x rm).ReadsBack) ∧ (∀ rd r, (Instr.smmul c rd rs r rm).ReadsBack) ∧
    (∀ rd rn r, (Instr.smmls c rd rn rs r rm).ReadsBack) := by
  and_intros
  all_goals intros
  all_goals
    apply readsBack_arm rfl
    case hparts =>
      repeat first | with_reducible apply Consists.appendFlag | apply Consists.append
      apply consists_field
    intro w hw
    have hrs : regAt w 8 = rs := hw.regAt 8
    have hrm : regAt w 0 = rm := hw.regAt 0
    rw [decodeArm_media (hw.field 28 4) (hw.opAt 25 3) (hw.flagAt 4), decodeMedia_dualMul (hw.opAt 23 2),
      decodeDualMul, hw.regAt 16, hw.regAt 12, hrs, hw.flagAt 5, hrm, hw.opAt 20 3, hw.opAt 6 2]
    rfl

/-- R151: the dual and most significant word multiplies with accumulate. -/
theorem readsBack_dualMulAdd (c : Cond) (rd rn rs rm : RegNum) (x : Bool)
    (hacc : accumulates rn = true) :
    (Instr.smlad c rd rn rs x rm).ReadsBack ∧ (Instr.smlsd c rd rn rs x rm).ReadsBack ∧
    (Instr.smmla c rd rn rs x rm).ReadsBack := by
  and_intros
  all_goals
    apply readsBack_arm rfl
    case hparts =>
      repeat first | with_reducible apply Consists.appendFlag | apply Consists.append
      apply consists_field
    intro w hw
    have hrd : regAt w 16 = rd := hw.regAt 16
    have hrn : regAt w 12 = rn := hw.regAt 12
    have hrs : regAt w 8 = rs := hw.regAt 8
    have hrm : regAt w 0 = rm := hw.regAt 0
    have hx : flagAt w 5 = x := hw.flagAt 5
    rw [decodeArm_media (hw.field 28 4) (hw.opAt 25 3) (hw.flagAt 4), decodeMedia_dualMul (hw.opAt 23 2),
      decodeDualMul, hrd, hrn, beq_of_accumulates hacc, hrs, hx, hrm, hw.opAt 20 3, hw.opAt 6 2]
    rfl

theorem readsBack_usad8 (c : Cond) (rd rs rm : RegNum) : (Instr.usad8 c rd rs rm).ReadsBack := by
  apply readsBack_arm rfl
  case hparts =>
    repeat first | with_reducible apply Consists.appendFlag | apply Consists.append
    apply consists_field
  intro w hw
  rw [decodeArm_media (hw.field 28 4) (hw.opAt 25 3) (hw.flagAt 4), decodeMedia_sad (hw.opAt 23 2), decodeSad,
    hw.opAt 20 3, hw.opAt 5 3, hw.regAt 16, hw.regAt 12, hw.regAt 8, hw.regAt 0]
  rfl

theorem readsBack_usada8 (c : Cond) (rd rn rs rm : RegNum) (hacc : accumulates rn = true) :
    (Instr.usada8 c rd rn rs rm).ReadsBack := by
  apply readsBack_arm rfl
  case hparts =>
    repeat first | with_reducible apply Consists.appendFlag | apply Consists.append
    apply consists_field
  intro w hw
  have hrd : regAt w 16 = rd := hw.regAt 16
  have hrn : regAt w 12 = rn := hw.regAt 12
  have hrs : regAt w 8 = rs := hw.regAt 8
  have hrm : regAt w 0 = rm := hw.regAt 0
  rw [decodeArm_media (hw.field 28 4) (hw.opAt 25 3) (hw.flagAt 4), decodeMedia_sad (hw.opAt 23 2), decodeSad,
    hw.opAt 20 3, hw.opAt 5 3, hrd, hrn, beq_of_accumulates hacc, hrs, hrm]
  rfl

/-- R152: block transfers. -/
theorem readsBack_block (c : Cond) (p u w : Bool) (rn : RegNum) :
    (∀ list, (Instr.ldm c p u w rn list).ReadsBack) ∧ (∀ list15, (Instr.ldmUser c p u w rn list15).ReadsBack) ∧
    (∀ list15, (Instr.ldmReturn c p u w rn list15).ReadsBack) ∧ (∀ list, (Instr.stm c p u w rn list).ReadsBack) ∧
    (∀ list, (Instr.stmUser c p u w rn list).ReadsBack) := by
  and_intros
  all_goals intros
  all_goals
    apply readsBack_arm rfl
    case hparts =>
      repeat first | with_reducible apply Consists.appendFlag | apply Consists.append
      apply consists_field
    intro e hw
    have hp : flagAt e 24 = p := hw.flagAt 24
    have hu : flagAt e 23 = u := hw.flagAt 23
    have hwb : flagAt e 21 = w := hw.flagAt 21
    have hrn : regAt e 16 = rn := hw.regAt 16
    rw [decodeArm_block (hw.field 28 4) (hw.opAt 25 3), decodeBlock, hp, hu, hwb, hrn, hw.flagAt 22, hw.flagAt 20,
      hw.field 0 16, hw.flagAt 15, hw.field 0 15]
    rfl

/-- R153: B and BL. -/
theorem readsBack_branch (c : Cond) (imm : BitVec 24) :
    (Instr.b c imm).ReadsBack ∧ (Instr.bl c imm).ReadsBack := by
  and_intros
  all_goals
    apply readsBack_arm rfl
    case hparts =>
      repeat first | with_reducible apply Consists.appendFlag | apply Consists.append
      apply consists_field
    intro w hw
    rw [decodeArm_branch (hw.field 28 4) (hw.opAt 25 3), hw.flagAt 24, hw.field 0 24]
    rfl

theorem readsBack_swi (c : Cond) (imm : BitVec 24) : (Instr.swi c imm).ReadsBack := by
  apply readsBack_arm rfl
  case hparts =>
    repeat first | with_reducible apply Consists.appendFlag | apply Consists.append
    apply consists_field
  intro w hw
  rw [decodeArm_swi (hw.field 28 4) (hw.opAt 25 3) (hw.flagAt 24), hw.field 0 24]
  rfl

/-- R154: LDC and STC. -/
theorem readsBack_cpTransfer (c : Cond) (n : Bool) (rn cd cp : RegNum) (addr : CpAddressing) :
    (Instr.stc c n rn cd cp addr).ReadsBack ∧ (Instr.ldc c n rn cd cp addr).ReadsBack := by
  and_intros
  all_goals rcases addr with ⟨_ | _ | _, u, imm⟩ | option
  all_goals
    apply readsBack_arm rfl
    case hparts =>
      repeat first | with_reducible apply Consists.appendFlag | apply Consists.append
      apply consists_field
    intro w hw
    have hrn : regAt w 16 = rn := hw.regAt 16
    have hcd : regAt w 12 = cd := hw.regAt 12
    have hcp : regAt w 8 = cp := hw.regAt 8
    rw [decodeArm_cpTransfer (hw.field 28 4) (hw.opAt 25 3), decodeCpTransfer, cpAddressingAt, hw.flagAt 22,
      hrn, hcd, hcp, hw.flagAt 23, hw.field 0 8, hw.flagAt 24, hw.flagAt 21, hw.flagAt 20]
    rfl

/-- R134: LDC2 and STC2. -/
theorem readsBack_cpTransfer2 (n : Bool) (rn cd cp : RegNum) (addr : CpAddressing) :
    (Instr.stc2 n rn cd cp addr).ReadsBack ∧ (Instr.ldc2 n rn cd cp addr).ReadsBack := by
  and_intros
  all_goals rcases addr with ⟨_ | _ | _, u, imm⟩ | option
  all_goals
    apply readsBack_arm rfl
    case hparts =>
      repeat first | with_reducible apply Consists.appendFlag | apply Consists.append
      apply consists_field
    intro w hw
    have hrn : regAt w 16 = rn := hw.regAt 16
    have hcd : regAt w 12 = cd := hw.regAt 12
    have hcp : regAt w 8 = cp := hw.regAt 8
    rw [decodeArm_unconditional (hw.field 28 4), decodeUnconditional, hw.opAt 25 3, decodeCpTransfer2, cpAddressingAt,
      hw.flagAt 22, hrn, hcd, hcp, hw.flagAt 23, hw.field 0 8, hw.flagAt 24, hw.flagAt 21,
      hw.flagAt 20]
    rfl

/-- R159 (d): MCRR and MRRC. -/
theorem readsBack_cpPair (c : Cond) (rn rd cp : RegNum) (op1 : BitVec 4) (cm : RegNum) :
    (Instr.mcrr c rn rd cp op1 cm).ReadsBack ∧ (Instr.mrrc c rn rd cp op1 cm).ReadsBack := by
  and_intros
  all_goals
    apply readsBack_arm rfl
    case hparts =>
      repeat first | with_reducible apply Consists.appendFlag | apply Consists.append
      apply consists_field
    intro w hw
    have hrn : regAt w 16 = rn := hw.regAt 16
    have hrd : regAt w 12 = rd := hw.regAt 12
    have hcp : regAt w 8 = cp := hw.regAt 8
    have hop1 : w.extractLsb' 4 4 = op1 := hw.field 4 4
    have hcm : regAt w 0 = cm := hw.regAt 0
    rw [decodeArm_cpTransfer (hw.field 28 4) (hw.opAt 25 3), decodeCpTransfer, cpAddressingAt, hw.flagAt 22, hrn,
      hrd, hcp, hw.flagAt 23, hw.flagAt 24, hw.flagAt 21, hw.flagAt 20, hop1, hcm]
    rfl

/-- R134: MCRR2 and MRRC2. -/
theorem readsBack_cpPair2 (rn rd cp : RegNum) (op1 : BitVec 4) (cm : RegNum) :
    (Instr.mcrr2 rn rd cp op1 cm).ReadsBack ∧ (Instr.mrrc2 rn rd cp op1 cm).ReadsBack := by
  and_intros
  all_goals
    apply readsBack_arm rfl
    case hparts =>
      repeat first | with_reducible apply Consists.appendFlag | apply Consists.append
      apply consists_field
    intro w hw
    have hrn : regAt w 16 = rn := hw.regAt 16
    have hrd : regAt w 12 = rd := hw.regAt 12
    have hcp : regAt w 8 = cp := hw.regAt 8
    have hop1 : w.extractLsb' 4 4 = op1 := hw.field 4 4
    have hcm : regAt w 0 = cm := hw.regAt 0
    rw [decodeArm_unconditional (hw.field 28 4), decodeUnconditional, hw.opAt 25 3, decodeCpTransfer2,
      cpAddressingAt, hw.flagAt 22, hrn, hrd, hcp, hw.flagAt 23, hw.flagAt 24, hw.flagAt 21, hw.flagAt 20, hop1, hcm]
    rfl

/-- R155: CDP, MCR and MRC. -/
theorem readsBack_cpOp (c : Cond) (cn d cp : RegNum) (op2 : BitVec 3) (cm : RegNum) :
    (∀ op1, (Instr.cdp c op1 cn d cp op2 cm).ReadsBack) ∧ (∀ op1, (Instr.mcr c op1 cn d cp op2 cm).ReadsBack) ∧
    (∀ op1, (Instr.mrc c op1 cn d cp op2 cm).ReadsBack) := by
  and_intros
  all_goals intros
  all_goals
    apply readsBack_arm rfl
    case hparts =>
      repeat first | with_reducible apply Consists.appendFlag | apply Consists.append
      apply consists_field
    intro w hw
    have hcn : regAt w 16 = cn := hw.regAt 16
    have hd : regAt w 12 = d := hw.regAt 12
    have hcp : regAt w 8 = cp := hw.regAt 8
    have hop2 : w.extractLsb' 5 3 = op2 := hw.field 5 3
    have hcm : regAt w 0 = cm := hw.regAt 0
    rw [decodeArm_cpOp (hw.field 28 4) (hw.opAt 25 3) (hw.flagAt 24), decodeCpOp, hw.flagAt 4, hw.flagAt 20,
      hw.field 20 4, hw.field 21 3, hcn, hd, hcp, hop2, hcm]
    rfl

/-- R134: CDP2, MCR2 and MRC2. -/
theorem readsBack_cpOp2 (cn d cp : RegNum) (op2 : BitVec 3) (cm : RegNum) :
    (∀ op1, (Instr.cdp2 op1 cn d cp op2 cm).ReadsBack) ∧ (∀ op1, (Instr.mcr2 op1 cn d cp op2 cm).ReadsBack) ∧
    (∀ op1, (Instr.mrc2 op1 cn d cp op2 cm).ReadsBack) := by
  and_intros
  all_goals intros
  all_goals
    apply readsBack_arm rfl
    case hparts =>
      repeat first | with_reducible apply Consists.appendFlag | apply Consists.append
      apply consists_field
    intro w hw
    have hcn : regAt w 16 = cn := hw.regAt 16
    have hd : regAt w 12 = d := hw.regAt 12
    have hcp : regAt w 8 = cp := hw.regAt 8
    have hop2 : w.extractLsb' 5 3 = op2 := hw.field 5 3
    have hcm : regAt w 0 = cm := hw.regAt 0
    rw [decodeArm_unconditional (hw.field 28 4), decodeUnconditional, hw.opAt 25 3, hw.flagAt 24, decodeCpOp2,
      hw.flagAt 4, hw.flagAt 20, hw.field 20 4, hw.field 21 3, hcn, hd, hcp, hop2, hcm]
    rfl

theorem readsBack_setend (e : Bool) : (Instr.setend e).ReadsBack := by
  apply readsBack_arm rfl
  case hparts =>
    repeat first | with_reducible apply Consists.appendFlag | apply Consists.append
    apply consists_field
  intro w hw
  rw [decodeArm_unconditional (hw.field 28 4), decodeUnconditional, hw.opAt 25 3, hw.opAt 20 5, decodeCpsSetend,
    hw.flagAt 16, hw.opAt 17 3, hw.opAt 10 6, hw.opAt 0 9, hw.flagAt 9]
  rfl

theorem readsBack_cpsMode (mode : BitVec 5) : (Instr.cpsMode mode).ReadsBack := by
  apply readsBack_arm rfl
  case hparts =>
    repeat first | with_reducible apply Consists.appendFlag | apply Consists.append
    apply consists_field
  intro w hw
  rw [decodeArm_unconditional (hw.field 28 4), decodeUnconditional, hw.opAt 25 3, hw.opAt 20 5, decodeCpsSetend,
    hw.flagAt 16, hw.opAt 9 7, hw.flagAt 5, hw.flagAt 17, hw.flagAt 8, hw.flagAt 7, hw.flagAt 6, hw.field 0 5,
    hw.flagAt 19, hw.flagAt 18]
  rfl

theorem readsBack_cpsFlags (disable m a i f : Bool) (mode : BitVec 5)
    (hlisted : cpsFlagsListed m a i f mode = true) :
    (Instr.cpsFlags disable m a i f mode).ReadsBack := by
  apply readsBack_arm rfl
  case hparts =>
    repeat first | with_reducible apply Consists.appendFlag | apply Consists.append
    apply consists_field
  intro w hw
  rw [decodeArm_unconditional (hw.field 28 4), decodeUnconditional, hw.opAt 25 3, hw.opAt 20 5, decodeCpsSetend,
    hw.flagAt 16, hw.opAt 9 7, hw.flagAt 5, hw.flagAt 17, hw.flagAt 8, hw.flagAt 7, hw.flagAt 6, hw.field 0 5,
    hw.flagAt 19, hw.flagAt 18]
  exact congrArg (fun ok => onlyIf ok (.cpsFlags disable m a i f mode)) hlisted

theorem readsBack_rfe (p u w : Bool) (rn : RegNum) : (Instr.rfe p u w rn).ReadsBack := by
  apply readsBack_arm rfl
  case hparts =>
    repeat first | with_reducible apply Consists.appendFlag | apply Consists.append
    apply consists_field
  intro e hw
  rw [decodeArm_unconditional (hw.field 28 4), decodeUnconditional, hw.opAt 25 3, decodeRfeSrs, hw.flagAt 24,
    hw.flagAt 23, hw.flagAt 21, hw.flagAt 22, hw.flagAt 20, hw.opAt 0 16, hw.regAt 16]
  rfl

theorem readsBack_srs (p u w : Bool) (mode : BitVec 5) : (Instr.srs p u w mode).ReadsBack := by
  apply readsBack_arm rfl
  case hparts =>
    repeat first | with_reducible apply Consists.appendFlag | apply Consists.append
    apply consists_field
  intro e hw
  rw [decodeArm_unconditional (hw.field 28 4), decodeUnconditional, hw.opAt 25 3, decodeRfeSrs, hw.flagAt 24,
    hw.flagAt 23, hw.flagAt 21, hw.flagAt 22, hw.flagAt 20, hw.opAt 5 15, hw.field 0 5]
  rfl

theorem readsBack_blxImm (h : Bool) (imm : BitVec 24) : (Instr.blxImm h imm).ReadsBack := by
  apply readsBack_arm rfl
  case hparts =>
    repeat first | with_reducible apply Consists.appendFlag | apply Consists.append
    apply consists_field
  intro w hw
  rw [decodeArm_unconditional (hw.field 28 4), decodeUnconditional, hw.opAt 25 3, hw.flagAt 24, hw.field 0 24]
  rfl

/-- R161, R166, R167: a 5-bit immediate and two registers. -/
theorem readsBack_thumbImm5 (imm : BitVec 5) (l ld : LowReg) :
    (Instr.tLslImm imm l ld).ReadsBack ∧ (Instr.tLsrImm imm l ld).ReadsBack ∧ (Instr.tAsrImm imm l ld).ReadsBack ∧
    (Instr.tStrImm imm l ld).ReadsBack ∧ (Instr.tLdrImm imm l ld).ReadsBack ∧ (Instr.tStrbImm imm l ld).ReadsBack ∧
    (Instr.tLdrbImm imm l ld).ReadsBack ∧ (Instr.tStrhImm imm l ld).ReadsBack ∧ (Instr.tLdrhImm imm l ld).ReadsBack := by
  and_intros
  all_goals
    apply readsBack_thumb rfl
    case hparts =>
      repeat first | with_reducible apply Consists.appendFlag | apply Consists.append
      apply consists_field
    intro w hw
    have himm : w.extractLsb' 6 5 = imm := hw.field 6 5
    have hl : lowAt w 3 = l := hw.lowAt 3
    have hld : lowAt w 0 = ld := hw.lowAt 0
    rw [decodeThumbHalf, hw.opAt 12 4, hw.opAt 11 5, himm, hl, hld]
    rfl

/-- R161, R165: three registers. -/
theorem readsBack_thumbReg3 (lm ln ld : LowReg) :
    (Instr.tAddReg lm ln ld).ReadsBack ∧ (Instr.tSubReg lm ln ld).ReadsBack ∧ (Instr.tStrReg lm ln ld).ReadsBack ∧
    (Instr.tStrhReg lm ln ld).ReadsBack ∧ (Instr.tStrbReg lm ln ld).ReadsBack ∧
    (Instr.tLdrsbReg lm ln ld).ReadsBack ∧ (Instr.tLdrReg lm ln ld).ReadsBack ∧
    (Instr.tLdrhReg lm ln ld).ReadsBack ∧ (Instr.tLdrbReg lm ln ld).ReadsBack ∧ (Instr.tLdrshReg lm ln ld).ReadsBack := by
  and_intros
  all_goals
    apply readsBack_thumb rfl
    case hparts =>
      repeat first | with_reducible apply Consists.appendFlag | apply Consists.append
      apply consists_field
    intro w hw
    have hlm : lowAt w 6 = lm := hw.lowAt 6
    have hln : lowAt w 3 = ln := hw.lowAt 3
    have hld : lowAt w 0 = ld := hw.lowAt 0
    rw [decodeThumbHalf, hw.opAt 12 4, hw.opAt 11 5, hw.opAt 9 2, hlm, hln, hld]
    rfl

/-- R161: a 3-bit immediate. -/
theorem readsBack_thumbImm3 :
    (∀ imm3 ln ld, (Instr.tAddImm3 imm3 ln ld).ReadsBack) ∧ (∀ imm3 ln ld, (Instr.tSubImm3 imm3 ln ld).ReadsBack) := by
  and_intros
  all_goals intros
  all_goals
    apply readsBack_thumb rfl
    case hparts =>
      repeat first | with_reducible apply Consists.appendFlag | apply Consists.append
      apply consists_field
    intro w hw
    rw [decodeThumbHalf, hw.opAt 12 4, hw.opAt 11 5, hw.opAt 9 2, hw.field 6 3, hw.lowAt 3, hw.lowAt 0]
    rfl

/-- R162, R168, R170: a register and eight bits. -/
theorem readsBack_thumbImm8 (l : LowReg) (imm : BitVec 8) :
    (Instr.tMovImm l imm).ReadsBack ∧ (Instr.tCmpImm l imm).ReadsBack ∧ (Instr.tAddImm8 l imm).ReadsBack ∧
    (Instr.tSubImm8 l imm).ReadsBack ∧ (Instr.tLdrPc l imm).ReadsBack ∧ (Instr.tStrSp l imm).ReadsBack ∧
    (Instr.tLdrSp l imm).ReadsBack ∧ (Instr.tAddPc l imm).ReadsBack ∧ (Instr.tAddSp l imm).ReadsBack ∧
    (Instr.tStmia l imm).ReadsBack ∧ (Instr.tLdmia l imm).ReadsBack := by
  and_intros
  all_goals
    apply readsBack_thumb rfl
    case hparts =>
      repeat first | with_reducible apply Consists.appendFlag | apply Consists.append
      apply consists_field
    intro w hw
    have hl : lowAt w 8 = l := hw.lowAt 8
    have himm : w.extractLsb' 0 8 = imm := hw.field 0 8
    rw [decodeThumbHalf, hw.opAt 12 4, hw.opAt 11 5, hl, himm]
    rfl

/-- R172: an 11-bit offset. -/
theorem readsBack_thumbBranch :
    (∀ offset, (Instr.tB offset).ReadsBack) ∧ (∀ poff, (Instr.tBlBlxPrefix poff).ReadsBack) ∧
    (∀ offset, (Instr.tBlSuffix offset).ReadsBack) := by
  and_intros
  all_goals intros
  all_goals
    apply readsBack_thumb rfl
    case hparts =>
      repeat first | with_reducible apply Consists.appendFlag | apply Consists.append
      apply consists_field
    intro w hw
    rw [decodeThumbHalf, hw.opAt 12 4, hw.opAt 11 5, hw.field 0 11]
    rfl

theorem readsBack_tBlxSuffix (offset : BitVec 10) : (Instr.tBlxSuffix offset).ReadsBack := by
  apply readsBack_thumb rfl
  case hparts =>
    repeat first | with_reducible apply Consists.appendFlag | apply Consists.append
    apply consists_field
  intro w hw
  rw [decodeThumbHalf, hw.opAt 12 4, hw.opAt 11 5, hw.flagAt 0, hw.field 1 10]
  rfl

/-- R163: the Thumb ALU rows. -/
theorem readsBack_thumbAlu (lm ld : LowReg) :
    (Instr.tAnd lm ld).ReadsBack ∧ (Instr.tEor lm ld).ReadsBack ∧ (Instr.tLslReg lm ld).ReadsBack ∧
    (Instr.tLsrReg lm ld).ReadsBack ∧ (Instr.tAsrReg lm ld).ReadsBack ∧ (Instr.tAdc lm ld).ReadsBack ∧
    (Instr.tSbc lm ld).ReadsBack ∧ (Instr.tRor lm ld).ReadsBack ∧ (Instr.tTst lm ld).ReadsBack ∧
    (Instr.tNeg lm ld).ReadsBack ∧ (Instr.tCmpReg lm ld).ReadsBack ∧ (Instr.tCmn lm ld).ReadsBack ∧
    (Instr.tOrr lm ld).ReadsBack ∧ (Instr.tMul lm ld).ReadsBack ∧ (Instr.tBic lm ld).ReadsBack ∧
    (Instr.tMvn lm ld).ReadsBack := by
  and_intros
  all_goals
    apply readsBack_thumb rfl
    case hparts =>
      repeat first | with_reducible apply Consists.appendFlag | apply Consists.append
      apply consists_field
    intro w hw
    have hlm : lowAt w 3 = lm := hw.lowAt 3
    have hld : lowAt w 0 = ld := hw.lowAt 0
    rw [decodeThumbHalf_alu (hw.opAt 12 4) (hw.opAt 11 5) (hw.flagAt 10), decodeThumbAlu, hw.opAt 6 4, hlm, hld]
    rfl

/-- R164: the Thumb branch-exchanges. -/
theorem readsBack_thumbExchange (rm : RegNum) :
    (Instr.tBx rm).ReadsBack ∧ (Instr.tBlxReg rm).ReadsBack := by
  and_intros
  all_goals
    apply readsBack_thumb rfl
    case hparts =>
      repeat first | with_reducible apply Consists.appendFlag | apply Consists.append
      apply consists_field
    intro w hw
    rw [decodeThumbHalf_high (hw.opAt 12 4) (hw.opAt 11 5) (hw.flagAt 10), decodeThumbHigh, hw.opAt 8 2, hw.opAt 0 3,
      hw.flagAt 7, hw.regAt 3]
    rfl

/-- The two parts of a high register, side by side, are its field (R164). -/
theorem Consists.high {h : Half} {ps : Parts} (hw : Consists h ps) {r : RegNum}
    (h7 : ps.field 7 1 = (regBits r).extractLsb' 3 1) (h0 : ps.field 0 3 = (regBits r).extractLsb' 0 3) :
    (h.extractLsb' 7 1 ++ h.extractLsb' 0 3 : BitVec 4).toFin = r := by
  rw [hw.field, hw.field, h7, h0, toFin_high_low]

theorem readsBack_tAddHigh (rd rm : RegNum) (hhigh : someHigh rd rm = true) : (Instr.tAddHigh rd rm).ReadsBack := by
  apply readsBack_thumb rfl
  case hparts =>
    repeat first | with_reducible apply Consists.appendFlag | apply Consists.append
    apply consists_field
  intro w hw
  have hm : regAt w 3 = rm := hw.regAt 3
  rw [decodeThumbHalf_high (hw.opAt 12 4) (hw.opAt 11 5) (hw.flagAt 10), decodeThumbHigh, hw.opAt 8 2,
    hw.high (r := rd) rfl rfl, hm, hhigh]
  rfl

theorem readsBack_tCmpHigh (rd rm : RegNum) (hhigh : someHigh rd rm = true) : (Instr.tCmpHigh rd rm).ReadsBack := by
  apply readsBack_thumb rfl
  case hparts =>
    repeat first | with_reducible apply Consists.appendFlag | apply Consists.append
    apply consists_field
  intro w hw
  have hm : regAt w 3 = rm := hw.regAt 3
  rw [decodeThumbHalf_high (hw.opAt 12 4) (hw.opAt 11 5) (hw.flagAt 10), decodeThumbHigh, hw.opAt 8 2,
    hw.high (r := rd) rfl rfl, hm, hhigh]
  rfl

theorem readsBack_tMovHigh (rd rm : RegNum) (hhigh : someHigh rd rm = true) : (Instr.tMovHigh rd rm).ReadsBack := by
  apply readsBack_thumb rfl
  case hparts =>
    repeat first | with_reducible apply Consists.appendFlag | apply Consists.append
    apply consists_field
  intro w hw
  have hm : regAt w 3 = rm := hw.regAt 3
  rw [decodeThumbHalf_high (hw.opAt 12 4) (hw.opAt 11 5) (hw.flagAt 10), decodeThumbHigh, hw.opAt 8 2,
    hw.high (r := rd) rfl rfl, hm, hhigh]
  rfl

theorem readsBack_tCpy (ld lm : LowReg) : (Instr.tCpy ld lm).ReadsBack := by
  apply readsBack_thumb rfl
  case hparts =>
    repeat first | with_reducible apply Consists.appendFlag | apply Consists.append
    apply consists_field
  intro w hw
  have hhigh := someHigh_low ld lm
  have hd : w.extractLsb' 7 1 ++ w.extractLsb' 0 3 = 0#1 ++ lowBits ld := congrArg₂ _ (hw.field 7 1) (hw.field 0 3)
  have hm := hw.regAt 3
  rw [decodeThumbHalf_high (hw.opAt 12 4) (hw.opAt 11 5) (hw.flagAt 10), decodeThumbHigh, hw.opAt 8 2, hd, hm,
    hw.lowAt 0, hw.lowAt 3]
  exact congrArg some (if_neg (Bool.eq_false_iff.mp hhigh))

/-- R169: the adjustments of sp. -/
theorem readsBack_thumbSp (imm : BitVec 7) :
    (Instr.tAddSpImm imm).ReadsBack ∧ (Instr.tSubSpImm imm).ReadsBack := by
  and_intros
  all_goals
    apply readsBack_thumb rfl
    case hparts =>
      repeat first | with_reducible apply Consists.appendFlag | apply Consists.append
      apply consists_field
    intro w hw
    rw [decodeThumbHalf_misc0 (hw.opAt 12 4) (hw.opAt 11 5), decodeThumbMisc0, hw.opAt 9 2, hw.opAt 8 3, hw.flagAt 7,
      hw.field 0 7]
    rfl

/-- R169: the extends. -/
theorem readsBack_thumbExtend (lm ld : LowReg) :
    (Instr.tSxth lm ld).ReadsBack ∧ (Instr.tSxtb lm ld).ReadsBack ∧ (Instr.tUxth lm ld).ReadsBack ∧
    (Instr.tUxtb lm ld).ReadsBack := by
  and_intros
  all_goals
    apply readsBack_thumb rfl
    case hparts =>
      repeat first | with_reducible apply Consists.appendFlag | apply Consists.append
      apply consists_field
    intro w hw
    have hlm : lowAt w 3 = lm := hw.lowAt 3
    have hld : lowAt w 0 = ld := hw.lowAt 0
    rw [decodeThumbHalf_misc0 (hw.opAt 12 4) (hw.opAt 11 5), decodeThumbMisc0, hw.opAt 9 2, hw.opAt 8 3, hw.opAt 6 2,
      hlm, hld]
    rfl

/-- R169: the byte reversals. -/
theorem readsBack_thumbReverse (lm ld : LowReg) :
    (Instr.tRev lm ld).ReadsBack ∧ (Instr.tRev16 lm ld).ReadsBack ∧ (Instr.tRevsh lm ld).ReadsBack := by
  and_intros
  all_goals
    apply readsBack_thumb rfl
    case hparts =>
      repeat first | with_reducible apply Consists.appendFlag | apply Consists.append
      apply consists_field
    intro w hw
    have hlm : lowAt w 3 = lm := hw.lowAt 3
    have hld : lowAt w 0 = ld := hw.lowAt 0
    rw [decodeThumbHalf_misc1 (hw.opAt 12 4) (hw.opAt 11 5), decodeThumbMisc1, hw.opAt 9 2, hw.opAt 8 3, hw.opAt 6 2,
      hlm, hld]
    rfl

theorem readsBack_tPush (r : Bool) (list : BitVec 8) : (Instr.tPush r list).ReadsBack := by
  apply readsBack_thumb rfl
  case hparts =>
    repeat first | with_reducible apply Consists.appendFlag | apply Consists.append
    apply consists_field
  intro w hw
  rw [decodeThumbHalf_misc0 (hw.opAt 12 4) (hw.opAt 11 5), decodeThumbMisc0, hw.opAt 9 2, hw.flagAt 8, hw.field 0 8]
  rfl

theorem readsBack_tPop (r : Bool) (list : BitVec 8) : (Instr.tPop r list).ReadsBack := by
  apply readsBack_thumb rfl
  case hparts =>
    repeat first | with_reducible apply Consists.appendFlag | apply Consists.append
    apply consists_field
  intro w hw
  rw [decodeThumbHalf_misc1 (hw.opAt 12 4) (hw.opAt 11 5), decodeThumbMisc1, hw.opAt 9 2, hw.flagAt 8, hw.field 0 8]
  rfl

theorem readsBack_tSetend (e : Bool) : (Instr.tSetend e).ReadsBack := by
  apply readsBack_thumb rfl
  case hparts =>
    repeat first | with_reducible apply Consists.appendFlag | apply Consists.append
    apply consists_field
  intro w hw
  rw [decodeThumbHalf_misc0 (hw.opAt 12 4) (hw.opAt 11 5), decodeThumbMisc0, hw.opAt 9 2, hw.opAt 8 3, hw.opAt 5 3,
    hw.opAt 4 1, hw.opAt 0 3, hw.flagAt 3]
  rfl

theorem readsBack_tCps (disable a i f : Bool) : (Instr.tCps disable a i f).ReadsBack := by
  apply readsBack_thumb rfl
  case hparts =>
    repeat first | with_reducible apply Consists.appendFlag | apply Consists.append
    apply consists_field
  intro w hw
  rw [decodeThumbHalf_misc0 (hw.opAt 12 4) (hw.opAt 11 5), decodeThumbMisc0, hw.opAt 9 2, hw.opAt 8 3, hw.opAt 5 3,
    hw.flagAt 3, hw.flagAt 4, hw.flagAt 2, hw.flagAt 1, hw.flagAt 0]
  rfl

theorem readsBack_tBkpt (imm : BitVec 8) : (Instr.tBkpt imm).ReadsBack := by
  apply readsBack_thumb rfl
  case hparts =>
    repeat first | with_reducible apply Consists.appendFlag | apply Consists.append
    apply consists_field
  intro w hw
  rw [decodeThumbHalf_misc1 (hw.opAt 12 4) (hw.opAt 11 5), decodeThumbMisc1, hw.opAt 9 2, hw.opAt 8 3, hw.field 0 8]
  rfl

/-- R171: the undefined instruction and SWI. -/
theorem readsBack_thumbTrap (imm : BitVec 8) :
    (Instr.tUndefined imm).ReadsBack ∧ (Instr.tSwi imm).ReadsBack := by
  and_intros
  all_goals
    apply readsBack_thumb rfl
    case hparts =>
      repeat first | with_reducible apply Consists.appendFlag | apply Consists.append
      apply consists_field
    intro w hw
    rw [decodeThumbHalf_cond (hw.opAt 12 4), decodeThumbCond, hw.opAt 8 4, hw.field 0 8]
    rfl

theorem readsBack_tBCond (c : Cond) (offset : BitVec 8) (hc : (Instr.tBCond c offset).WellFormed) :
    (Instr.tBCond c offset).ReadsBack := by
  apply readsBack_thumb rfl
  case hparts =>
    repeat first | with_reducible apply Consists.appendFlag | apply Consists.append
    apply consists_field
  intro w hw
  rw [decodeThumbHalf_cond (hw.opAt 12 4), decodeThumbCond, hw.opAt 8 4, hw.field 8 4, hw.field 0 8]
  cases c
  case al => cases hc
  all_goals rfl

/-- R172, R630: the two halfwords of a BL or BLX. -/
theorem readsBack_pairs (poff : BitVec 11) :
    (∀ offset, (Instr.tBl poff offset).ReadsBack) ∧ (∀ offset, (Instr.tBlx poff offset).ReadsBack) := by
  and_intros
  all_goals intros
  all_goals
    apply readsBack_pair rfl
    case hparts => exact (consists_field _).append _
    case hrest =>
      repeat apply Consists.append
      apply consists_field
    intro w next hw hnext
    rw [decodeThumbPair, isBlPrefix, hw.opAt 11 5, hnext.opAt 11 5, hnext.flagAt 0, hw.field 0 11, hnext.field 0 11,
      hnext.field 1 10]
    rfl

/-- R130 to R173: the decoder reads every row's encoding back. -/
theorem Instr.readsBack {i : Instr} (hf : i.WellFormed) : i.ReadsBack := by
  cases i
  case and | eor | sub | rsb | add | adc | sbc | rsc | orr | bic | mov | mvn => simp only [readsBack_dataProcessing]
  case tst | teq | cmp | cmn => simp only [readsBack_compare]
  case msrCpsr | msrSpsr => simp only [readsBack_msr]
  case strh | ldrh | ldrd | strd | ldrsb | ldrsh => simp only [readsBack_halfTransfer]
  case str | ldr | strb | ldrb => simp only [readsBack_wordTransfer]
  case strt | ldrt | strbt | ldrbt => simp only [readsBack_userTransfer]
  case pld => simp only [readsBack_pld]
  case mul | mla | umaal | umull | umlal | smull | smlal | swp | swpb | strex | ldrex => simp only [readsBack_mulSwap]
  case bx | blxReg | clz | qadd | qsub | qdadd | qdsub => simp only [readsBack_misc]
  case bxj => simp only [readsBack_bxj]
  case bkpt => simp only [readsBack_bkpt]
  case smlaxy | smlawy | smulwy | smlalxy | smulxy => simp only [readsBack_halfMul]
  case mrsCpsr | mrsSpsr => simp only [readsBack_mrs]
  case qadd16 | qaddsubx | qsubaddx | qsub16 | qadd8 | qsub8 | uqadd16 | uqaddsubx | uqsubaddx | uqsub16 | uqadd8 |
    uqsub8 | sadd16 | saddsubx | ssubaddx | ssub16 | sadd8 | ssub8 | uadd16 | uaddsubx | usubaddx | usub16 |
    uadd8 | usub8 | shadd16 | shaddsubx | shsubaddx | shsub16 | shadd8 | shsub8 | uhadd16 | uhaddsubx | uhsubaddx |
    uhsub16 | uhadd8 | uhsub8 => simp only [readsBack_parallel]
  case pkhbt | pkhtb | ssat | usat => simp only [readsBack_pack]
  case ssat16 | usat16 | sel | rev | rev16 | revsh => simp only [readsBack_saturateSelect]
  case sxtb16 | sxtb | sxth | uxtb16 | uxtb | uxth => simp only [readsBack_extend]
  case sxtab16 | sxtab | sxtah | uxtab16 | uxtab | uxtah => simp only [readsBack_extendAdd (hacc := show accumulates _ = true from hf)]
  case smuad | smusd | smlald | smlsld | smmul | smmls => simp only [readsBack_dualMul]
  case smlad | smlsd | smmla => simp only [readsBack_dualMulAdd (hacc := show accumulates _ = true from hf)]
  case usad8 => simp only [readsBack_usad8]
  case usada8 => exact readsBack_usada8 _ _ _ _ _ hf
  case ldm | ldmUser | ldmReturn | stm | stmUser => simp only [readsBack_block]
  case b | bl => simp only [readsBack_branch]
  case swi => simp only [readsBack_swi]
  case stc | ldc => simp only [readsBack_cpTransfer]
  case stc2 | ldc2 => simp only [readsBack_cpTransfer2]
  case mcrr | mrrc => simp only [readsBack_cpPair]
  case mcrr2 | mrrc2 => simp only [readsBack_cpPair2]
  case cdp | mcr | mrc => simp only [readsBack_cpOp]
  case cdp2 | mcr2 | mrc2 => simp only [readsBack_cpOp2]
  case setend => simp only [readsBack_setend]
  case cpsMode => simp only [readsBack_cpsMode]
  case cpsFlags => exact readsBack_cpsFlags _ _ _ _ _ _ hf
  case rfe => simp only [readsBack_rfe]
  case srs => simp only [readsBack_srs]
  case blxImm => simp only [readsBack_blxImm]
  case tLslImm | tLsrImm | tAsrImm | tStrImm | tLdrImm | tStrbImm | tLdrbImm | tStrhImm | tLdrhImm => simp only [readsBack_thumbImm5]
  case tAddReg | tSubReg | tStrReg | tStrhReg | tStrbReg | tLdrsbReg | tLdrReg | tLdrhReg | tLdrbReg | tLdrshReg => simp only [readsBack_thumbReg3]
  case tAddImm3 | tSubImm3 => simp only [readsBack_thumbImm3]
  case tMovImm | tCmpImm | tAddImm8 | tSubImm8 | tLdrPc | tStrSp | tLdrSp | tAddPc | tAddSp | tStmia | tLdmia => simp only [readsBack_thumbImm8]
  case tB | tBlBlxPrefix | tBlSuffix => simp only [readsBack_thumbBranch]
  case tBlxSuffix => simp only [readsBack_tBlxSuffix]
  case tAnd | tEor | tLslReg | tLsrReg | tAsrReg | tAdc | tSbc | tRor | tTst | tNeg | tCmpReg | tCmn | tOrr |
    tMul | tBic | tMvn => simp only [readsBack_thumbAlu]
  case tBx | tBlxReg => simp only [readsBack_thumbExchange]
  case tAddHigh => exact readsBack_tAddHigh _ _ hf
  case tCmpHigh => exact readsBack_tCmpHigh _ _ hf
  case tMovHigh => exact readsBack_tMovHigh _ _ hf
  case tCpy => simp only [readsBack_tCpy]
  case tAddSpImm | tSubSpImm => simp only [readsBack_thumbSp]
  case tSxth | tSxtb | tUxth | tUxtb => simp only [readsBack_thumbExtend]
  case tRev | tRev16 | tRevsh => simp only [readsBack_thumbReverse]
  case tPush => simp only [readsBack_tPush]
  case tPop => simp only [readsBack_tPop]
  case tSetend => simp only [readsBack_tSetend]
  case tCps => simp only [readsBack_tCps]
  case tBkpt => simp only [readsBack_tBkpt]
  case tUndefined | tSwi => simp only [readsBack_thumbTrap]
  case tBCond => exact readsBack_tBCond _ _ hf
  case tBl | tBlx => simp only [readsBack_pairs]

/-! ## Bytes (R102) -/

theorem halfBytes_append (h : Half) : h.extractLsb' 8 8 ++ h.extractLsb' 0 8 = h :=
  extract_append_extract (v := 8) (m := 8) h

theorem wordBytes_append (w : Word) :
    w.extractLsb' 24 8 ++ w.extractLsb' 16 8 ++ w.extractLsb' 8 8 ++ w.extractLsb' 0 8 = w := by
  rw [BitVec.extractLsb'_append_extractLsb'_eq_extractLsb' (start₁ := 16) (len₁ := 8) rfl,
    BitVec.extractLsb'_append_extractLsb'_eq_extractLsb' (start₁ := 8) (len₁ := 8) rfl]
  exact extract_append_extract (v := 24) (m := 8) w

/-- Settles O9: each encoding's words read back as the instruction, and its bytes as the words. -/
theorem decodeUndoesEncode : Obligations.DecodeUndoesEncode := by
  intro i hf
  have hread := Instr.readsBack hf
  unfold Instr.isThumb encode
  unfold Instr.ReadsBack at hread
  cases hw : i.code with
  | arm w => simp [Code.isThumb, Code.bytes, wordBytes, decode, decodeArmBytes, wordBytes_append,
    show decodeArm w = some i by rwa [hw] at hread]
  | thumb h =>
    simp [Code.isThumb, Code.bytes, halfBytes, decode, decodeThumbBytes, decodeHalfBytes, halfBytes_append,
      show decodeThumbHalf h = some i by rwa [hw] at hread]
  | pair h next =>
    simp [Code.isThumb, Code.bytes, halfBytes, decode, decodeThumbBytes, halfBytes_append,
      show decodeThumbPair h next = some i by rwa [hw] at hread]

end Sys2Proof
end

section
/-! Proofs. The encoder undoes the decoder: O10. -/

namespace Sys2Proof

set_option Elab.async false

/-! ## A word from its fields -/

/-- A concatenation is a field exactly where its parts are the two parts of the field. -/
theorem append_eq_field {v m n p : Nat} (x : BitVec v) (y : BitVec m) (w : BitVec n) :
    HAppend.hAppend (γ := no_index (BitVec (v + m))) x y = w.extractLsb' p (no_index (v + m)) ↔
      x = w.extractLsb' (p + m) v ∧ y = w.extractLsb' p m := by
  rw [← BitVec.extractLsb'_append_extractLsb'_eq_extractLsb' (x := w) (start₁ := p) (len₁ := m) rfl]
  refine ⟨fun h => ⟨?_, ?_⟩, fun ⟨hx, hy⟩ => hx ▸ hy ▸ rfl⟩
  · simpa only [BitVec.extractLsb'_append_eq_left] using congrArg (BitVec.extractLsb' m v) h
  · simpa only [BitVec.extractLsb'_append_eq_right] using congrArg (BitVec.extractLsb' 0 m) h

theorem eq_of_field {n : Nat} {x w : BitVec n}
    (h : x = w.extractLsb' 0 n) : x = w := h.trans BitVec.extractLsb'_eq_self

/-- The parts of a concatenation. -/
theorem parts_of_append {v m : Nat} (x : BitVec v) (y : BitVec m) :
    (HAppend.hAppend (γ := no_index (BitVec (v + m))) x y).extractLsb' m v = x ∧
      (HAppend.hAppend (γ := no_index (BitVec (v + m))) x y).extractLsb' 0 m = y :=
  ⟨BitVec.extractLsb'_append_eq_left, BitVec.extractLsb'_append_eq_right⟩

theorem shiftType_bits_ofBits (b : BitVec 2) : (ShiftType.ofBits b).bits = b := by
  revert b; decide

/-- What the decoder read, written again, is the field it was read from; fixed bits are compared as numbers. -/
theorem write_read {n : Nat} (w : BitVec n) :
    (∀ i, bit (flagAt w i) = w.extractLsb' i 1) ∧ (∀ lo, regBits (regAt w lo) = w.extractLsb' lo 4) ∧
    (∀ lo, lowBits (lowAt w lo) = w.extractLsb' lo 3) ∧
    ∀ m k lo, BitVec.ofNat m k = w.extractLsb' lo m ↔ k % 2 ^ m = opAt w lo m := by
  refine ⟨fun i => ?flag, fun _ => rfl, fun _ => rfl, fun m k lo => ?literal⟩
  case flag =>
    unfold flagAt
    generalize w.extractLsb' i 1 = b
    revert b; decide
  case literal => rw [← BitVec.toNat_inj, BitVec.toNat_ofNat]; rfl

theorem opAt_lt {n : Nat} (w : BitVec n) (lo len : Nat) : opAt w lo len < 2 ^ len := BitVec.isLt _

/-- A field is its upper and its lower part. -/
theorem opAt_add {n : Nat} (w : BitVec n) (lo a b : Nat) :
    opAt w lo (a + b) = opAt w (lo + b) a * 2 ^ b + opAt w lo b := by
  rw [opAt_eq, opAt_eq, opAt_eq, Nat.add_comm a b, pow_add, Nat.mod_mul, Nat.div_div_eq_div_mul, ← pow_add]
  ring

theorem opAt_add₃ {n : Nat} (w : BitVec n) (lo a b d : Nat) :
    opAt w lo (a + b + d) = opAt w (lo + d + b) a * 2 ^ (b + d) + opAt w (lo + d) b * 2 ^ d + opAt w lo d := by
  rw [opAt_add, opAt_add w (lo + d) a b, pow_add]
  ring

/-- The decoder's tests as numbers. -/
theorem test_iff {n : Nat} (w : BitVec n) :
    (∀ i, flagAt w i = true ↔ opAt w i 1 = 1) ∧ (∀ i, flagAt w i = false ↔ opAt w i 1 = 0) ∧
    (∀ lo, regAt w lo = 0 ↔ opAt w lo 4 = 0) ∧ ∀ lo, regAt w lo = 15 ↔ opAt w lo 4 = 15 := by
  refine ⟨fun i => ?_, fun i => ?_, fun lo => Fin.ext_iff, fun lo => Fin.ext_iff⟩
  · rw [flagAt_eq, beq_iff_eq]
  · have hlt := opAt_lt w i 1
    rw [flagAt_eq, beq_eq_false_iff_ne]
    omega

/-! ## ARM: each part of the decoder writes back the word it read -/

section
variable {c : Cond} {w : Word} {i : Instr}

theorem code_of_decodeMulSwap (hc : c.bits = w.extractLsb' 28 4) (hcls : opAt w 25 3 = 0) (h4 : opAt w 4 4 = 9)
    (h : decodeMulSwap c w = some i) : i.WellFormed ∧ i.code = .arm w := by
  have h21_7 : opAt w 21 7 = opAt w 25 3 * 16 + opAt w 24 1 * 8 + opAt w 21 3 := opAt_add₃ w 21 3 1 3
  have h20_8 : opAt w 20 8 = opAt w 21 7 * 2 + opAt w 20 1 := opAt_add w 20 7 1
  have h4_8 : opAt w 4 8 = opAt w 8 4 * 16 + opAt w 4 4 := opAt_add w 4 4 4
  have h0_12 : opAt w 0 12 = opAt w 4 8 * 16 + opAt w 0 4 := opAt_add w 0 8 4
  have h21 := opAt_lt w 21 3
  simp only [decodeMulSwap, onlyIf] at h
  repeat' split at h
  all_goals cases h
  all_goals refine ⟨rfl, congrArg Code.arm (eq_of_field ?_)⟩
  all_goals
    simp only [append_eq_field, write_read, *, Nat.reduceAdd, Nat.reduceMul, Nat.reducePow, Nat.reduceMod, and_true,
      true_and]
  all_goals
    simp only [test_iff, beq_iff_eq, Bool.and_eq_true, Bool.not_eq_true', ↓Bool.not_eq_true, imp_false,
      Nat.reducePow] at *
    omega

theorem code_of_decodeHalfMul (hc : c.bits = w.extractLsb' 28 4) (hop : opAt w 20 8 = opAt w 21 2 * 2 + 16)
    (h4 : flagAt w 4 = false) (h7 : flagAt w 7 = true)
    (h : decodeHalfMul c w = some i) : i.WellFormed ∧ i.code = .arm w := by
  have h4_2 : opAt w 4 2 = opAt w 5 1 * 2 + opAt w 4 1 := opAt_add w 4 1 1
  have h21 := opAt_lt w 21 2
  simp only [decodeHalfMul, onlyIf] at h
  repeat' split at h
  all_goals cases h
  all_goals refine ⟨rfl, congrArg Code.arm (eq_of_field ?_)⟩
  all_goals
    simp only [append_eq_field, write_read, *, Nat.reduceAdd, Nat.reduceMul, Nat.reducePow, Nat.reduceMod, and_true,
      true_and]
  all_goals
    simp only [test_iff, beq_iff_eq, ↓Bool.not_eq_true, imp_false, Nat.reducePow] at *
    omega

theorem code_of_decodeStatus (hc : c.bits = w.extractLsb' 28 4) (hop : opAt w 20 8 = opAt w 21 2 * 2 + 16)
    (h : decodeStatus c w = some i) : i.WellFormed ∧ i.code = .arm w := by
  have h16_12 : opAt w 16 12 = opAt w 20 8 * 16 + opAt w 16 4 := opAt_add w 16 8 4
  have h20_8 : opAt w 20 8 = opAt w 23 5 * 8 + opAt w 22 1 * 4 + opAt w 20 2 := opAt_add₃ w 20 5 1 2
  have h20 := opAt_lt w 20 2
  have h21 := opAt_lt w 21 2
  have h22 := opAt_lt w 22 1
  simp only [decodeStatus, onlyIf] at h
  repeat' split at h
  all_goals cases h
  all_goals refine ⟨rfl, congrArg Code.arm (eq_of_field ?_)⟩
  all_goals
    simp only [append_eq_field, write_read, Nat.reduceAdd, hc, and_true, true_and, msrCode]
    simp only [beq_iff_eq, Bool.and_eq_true, imp_false, Nat.reducePow] at *
    omega

theorem code_of_decodeMisc (hc : c.bits = w.extractLsb' 28 4) (hop : opAt w 20 8 = opAt w 21 2 * 2 + 16)
    (h : decodeMisc c w = some i) : i.WellFormed ∧ i.code = .arm w := by
  have h4_24 : opAt w 4 24 = opAt w 20 8 * 65536 + opAt w 8 12 * 16 + opAt w 4 4 := opAt_add₃ w 4 8 12 4
  have h16_12 : opAt w 16 12 = opAt w 20 8 * 16 + opAt w 16 4 := opAt_add w 16 8 4
  have h4_8 : opAt w 4 8 = opAt w 8 4 * 16 + opAt w 4 4 := opAt_add w 4 4 4
  have h20_12 : opAt w 20 12 = opAt w 28 4 * 256 + opAt w 20 8 := opAt_add w 20 4 8
  simp only [decodeMisc, onlyIf] at h
  repeat' split at h
  all_goals cases h
  all_goals refine ⟨rfl, congrArg Code.arm (eq_of_field ?_)⟩
  case' h_9.isTrue.refl hal =>
    have h28 : opAt w 28 4 = 14 := by
      rw [eq_of_beq hal] at hc
      exact (congrArg BitVec.toNat hc).symm
  all_goals
    simp only [append_eq_field, write_read, Nat.reduceAdd, hc, and_true, true_and, parts_of_append]
    simp only [test_iff, beq_iff_eq, Bool.and_eq_true, Nat.reducePow] at *
    omega

theorem indexing_of_ofBits {p l : Bool} {idx : Indexing} (h : Indexing.ofBits p l = some idx) : idx.p = p ∧
    idx.w = l := by
  revert p l idx
  decide

theorem code_of_decodeHalfOp {idx : Indexing} {off : HalfOffset}
    (hw : halfCode c idx (flagAt w 23) (w.extractLsb' 20 1) (regAt w 16) (regAt w 12) (w.extractLsb' 5 2) off = w)
    (h : decodeHalfOp c idx w off = some i) : i.WellFormed ∧ i.code = .arm w := by
  have h5 := opAt_lt w 5 2
  simp only [decodeHalfOp] at h
  split at h
  all_goals cases h
  all_goals
    refine ⟨rfl, congrArg Code.arm (Eq.trans ?_ hw)⟩
    congr 1
    · simp only [write_read, test_iff] at *
      omega
    · simp only [write_read]
      omega

theorem code_of_decodeHalf (hc : c.bits = w.extractLsb' 28 4) (hcls : opAt w 25 3 = 0) (h4 : flagAt w 4 = true)
    (h7 : flagAt w 7 = true) (h : decodeHalf c w = some i) : i.WellFormed ∧ i.code = .arm w := by
  have h7_5 : opAt w 7 5 = opAt w 8 4 * 2 + opAt w 7 1 := opAt_add w 7 4 1
  simp only [decodeHalf] at h
  repeat' split at h
  case h_1 | h_2.isFalse.isFalse => cases h
  all_goals
    obtain ⟨hp, hl⟩ := indexing_of_ofBits ‹_›
    refine code_of_decodeHalfOp (eq_of_field ?_) h
    simp only [halfCode, hp, hl, append_eq_field, write_read, parts_of_append, Nat.reduceAdd, hc, and_true, true_and]
    simp only [test_iff, beq_iff_eq, ↓Bool.not_eq_true] at *
    omega

/-- The fields around a second operand, once the operand's own fields are in place. -/
theorem code_of_decodeDp {op : Operand2}
    (hw : dpCode c (w.extractLsb' 21 4) (w.extractLsb' 20 1) (w.extractLsb' 16 4) (w.extractLsb' 12 4) op = w)
    (h : decodeDp c w op = some i) : i.WellFormed ∧ i.code = .arm w := by
  have h21 := opAt_lt w 21 4
  simp only [decodeDp, onlyIf] at h
  repeat' split at h
  all_goals cases h
  all_goals
    refine ⟨rfl, congrArg Code.arm (Eq.trans ?_ hw)⟩
    simp only [write_read]
    congr 1
    all_goals
      simp only [write_read, BitVec.ofNat_eq_ofNat]
      simp only [test_iff, beq_iff_eq, Bool.and_eq_true, imp_false, Nat.reducePow] at *
      omega

theorem indexing_of_ofBits_none {p l : Bool} (h : Indexing.ofBits p l = none) : p = false ∧ l = true := by
  revert p l
  decide

/-- The fields around the offset of a word or byte transfer, once the offset's own fields are in place. -/
theorem code_of_decodeWord {off : WordOffset}
    (hw : wordCode c (w.extractLsb' 24 1) (flagAt w 23) (w.extractLsb' 22 1) (w.extractLsb' 21 1) (w.extractLsb' 20 1)
      (regAt w 16) (regAt w 12) off = w) (h : decodeWord c w off = i) : i.WellFormed ∧ i.code = .arm w := by
  simp only [decodeWord, wordForm] at h
  split at h
  case h_1 hidx _ _ | h_2 hidx _ _ | h_3 hidx _ _ | h_4 hidx _ _ =>
    obtain ⟨hp, hl⟩ := indexing_of_ofBits hidx
    refine ⟨h ▸ rfl, h ▸ congrArg Code.arm (Eq.trans ?_ hw)⟩
    simp only [write_read, hp, hl]
    congr 1
    all_goals
      simp only [write_read, test_iff] at *
      omega
  all_goals
    obtain ⟨hp, hl⟩ := indexing_of_ofBits_none ‹_›
    refine ⟨h ▸ rfl, h ▸ congrArg Code.arm (Eq.trans ?_ hw)⟩
    congr 1
    all_goals
      simp only [write_read, BitVec.ofNat_eq_ofNat, test_iff] at *
      omega

theorem code_of_decodeParallel (hc : c.bits = w.extractLsb' 28 4) (hcls : opAt w 23 5 = 12) (h4 : flagAt w 4 = true)
    (h : decodeParallel c w = some i) : i.WellFormed ∧ i.code = .arm w := by
  have h20_8 : opAt w 20 8 = opAt w 23 5 * 8 + opAt w 20 3 := opAt_add w 20 5 3
  have h4_8 : opAt w 4 8 = opAt w 8 4 * 16 + opAt w 5 3 * 2 + opAt w 4 1 := opAt_add₃ w 4 4 3 1
  have h4_1 : opAt w 4 1 = 1 := ((test_iff w).1 4).1 h4
  simp only [decodeParallel] at h
  split at h
  case isTrue => cases h
  case isFalse h8 =>
    rw [Bool.not_eq_true, bne_eq_false_iff_eq] at h8
    rw [hcls] at h20_8
    rw [h8, h4_1] at h4_8
    split at h
    all_goals cases h
    all_goals
      refine ⟨rfl, congrArg Code.arm (eq_of_field ?_)⟩
      simp only [append_eq_field, write_read, *, Nat.reduceAdd, Nat.reduceMul, Nat.reducePow, Nat.reduceMod, and_true]

theorem accumulates_of_beq {r : RegNum} (h : (r == 15) = false) : accumulates r = true := by
  simpa [accumulates] using h

theorem code_of_decodeExtend (hc : c.bits = w.extractLsb' 28 4) (hcls : opAt w 23 5 = 13) (h4 : opAt w 4 6 = 7)
    (h : decodeExtend c w = some i) : i.WellFormed ∧ i.code = .arm w := by
  have h20_8 : opAt w 20 8 = opAt w 23 5 * 8 + opAt w 20 3 := opAt_add w 20 5 3
  have h16_12 : opAt w 16 12 = opAt w 20 8 * 16 + opAt w 16 4 := opAt_add w 16 8 4
  simp only [decodeExtend] at h
  split at h
  all_goals cases h
  case' h_1.refl hr | h_3.refl hr | h_5.refl hr | h_7.refl hr | h_9.refl hr | h_11.refl hr =>
    have hrn := accumulates_of_beq hr
  all_goals refine ⟨by first | rfl | exact hrn, congrArg Code.arm (eq_of_field ?_)⟩
  all_goals
    simp only [append_eq_field, write_read, *, Nat.reduceAdd, Nat.reduceMul, Nat.reducePow, Nat.reduceMod, and_true,
      true_and]
  all_goals
    simp only [test_iff, beq_iff_eq] at *
    omega

theorem code_of_decodeDualMul (hc : c.bits = w.extractLsb' 28 4) (hcls : opAt w 23 5 = 14) (h4 : flagAt w 4 = true)
    (h : decodeDualMul c w = some i) : i.WellFormed ∧ i.code = .arm w := by
  have h20_8 : opAt w 20 8 = opAt w 23 5 * 8 + opAt w 20 3 := opAt_add w 20 5 3
  simp only [decodeDualMul] at h
  repeat' split at h
  all_goals cases h
  case' h_1.isFalse.refl hr | h_2.isFalse.refl hr | h_5.isFalse.refl hr =>
    have hrn := accumulates_of_beq (Bool.not_eq_true _ ▸ hr)
  all_goals refine ⟨by first | rfl | exact hrn, congrArg Code.arm (eq_of_field ?_)⟩
  all_goals
    simp only [append_eq_field, write_read, *, Nat.reduceAdd, Nat.reduceMul, Nat.reducePow, Nat.reduceMod, and_true,
      true_and]
  all_goals
    simp only [test_iff, beq_iff_eq, ↓Bool.not_eq_true, beq_eq_false_iff_ne] at *
    omega

theorem code_of_decodeSad (hc : c.bits = w.extractLsb' 28 4) (hcls : opAt w 23 5 = 15) (h4 : flagAt w 4 = true)
    (h : decodeSad c w = some i) : i.WellFormed ∧ i.code = .arm w := by
  have h20_8 : opAt w 20 8 = opAt w 23 5 * 8 + opAt w 20 3 := opAt_add w 20 5 3
  have h4_4 : opAt w 4 4 = opAt w 5 3 * 2 + opAt w 4 1 := opAt_add w 4 3 1
  simp only [decodeSad] at h
  repeat' split at h
  all_goals cases h
  case' isTrue.isFalse.refl hr =>
    have hrn := accumulates_of_beq (Bool.not_eq_true _ ▸ hr)
  all_goals refine ⟨by first | rfl | exact hrn, congrArg Code.arm (eq_of_field ?_)⟩
  all_goals
    simp only [append_eq_field, write_read, *, Nat.reduceAdd, Nat.reduceMul, Nat.reducePow, Nat.reduceMod, and_true,
      true_and]
  all_goals
    simp only [test_iff, beq_iff_eq, Bool.and_eq_true, ↓Bool.not_eq_true, beq_eq_false_iff_ne] at *
    omega

theorem code_of_decodePack (hc : c.bits = w.extractLsb' 28 4) (hcls : opAt w 23 5 = 13)
    (h : decodePack c w = some i) : i.WellFormed ∧ i.code = .arm w := by
  have h20_8 : opAt w 20 8 = opAt w 23 5 * 8 + opAt w 20 3 := opAt_add w 20 5 3
  have h20_3 : opAt w 20 3 = opAt w 21 2 * 2 + opAt w 20 1 := opAt_add w 20 2 1
  have h21_7 : opAt w 21 7 = opAt w 23 5 * 4 + opAt w 21 2 := opAt_add w 21 5 2
  have h16_12 : opAt w 16 12 = opAt w 20 8 * 16 + opAt w 16 4 := opAt_add w 16 8 4
  have h4_8 : opAt w 4 8 = opAt w 8 4 * 16 + opAt w 6 2 * 4 + opAt w 4 2 := opAt_add₃ w 4 4 2 2
  have h4_6 : opAt w 4 6 = opAt w 7 3 * 8 + opAt w 6 1 * 4 + opAt w 4 2 := opAt_add₃ w 4 3 1 2
  have h4_3 : opAt w 4 3 = opAt w 6 1 * 4 + opAt w 4 2 := opAt_add w 4 1 2
  have h6_2 : opAt w 6 2 = opAt w 7 1 * 2 + opAt w 6 1 := opAt_add w 6 1 1
  simp only [decodePack, onlyIf] at h
  repeat' split at h
  case h_2.isTrue.isTrue h6 _ =>
    refine code_of_decodeExtend hc hcls ?_ h
    simp only [beq_iff_eq, test_iff] at *
    omega
  all_goals cases h
  all_goals refine ⟨rfl, congrArg Code.arm (eq_of_field ?_)⟩
  all_goals
    simp only [append_eq_field, write_read, *, Nat.reduceAdd, Nat.reduceMul, Nat.reducePow, Nat.reduceMod, and_true,
      true_and]
  all_goals
    simp only [test_iff, beq_iff_eq, ↓Bool.not_eq_true, bne_eq_false_iff_eq] at *
    omega

theorem code_of_decodeBlock (hc : c.bits = w.extractLsb' 28 4) (hcls : opAt w 25 3 = 4)
    (h : decodeBlock c w = some i) : i.WellFormed ∧ i.code = .arm w := by
  simp only [decodeBlock] at h
  repeat' split at h
  all_goals cases h
  all_goals refine ⟨rfl, congrArg Code.arm (eq_of_field ?_)⟩
  all_goals
    simp only [append_eq_field, write_read, *, Nat.reduceAdd, Nat.reducePow, Nat.reduceMod, and_true,
      true_and]
  all_goals
    simp only [test_iff, ↓Bool.not_eq_true] at *
    omega

theorem code_of_decodeCpOp (hc : c.bits = w.extractLsb' 28 4) (hcls : opAt w 24 4 = 14)
    (h : decodeCpOp c w = some i) :
    i.WellFormed ∧ i.code = .arm w := by
  simp only [decodeCpOp] at h
  repeat' split at h
  all_goals cases h
  all_goals refine ⟨rfl, congrArg Code.arm (eq_of_field ?_)⟩
  all_goals
    simp only [append_eq_field, write_read, *, Nat.reduceAdd, Nat.reducePow, Nat.reduceMod, and_true,
      true_and]
  all_goals
    simp only [test_iff, Bool.not_eq_true', ↓Bool.not_eq_true, Bool.not_eq_false'] at *
    omega

/-- The unconditional space: bits 31:28 = 1111 (R134). -/
theorem code_of_decodeCpOp2 (hcls : opAt w 24 8 = 254) (h : decodeCpOp2 w = some i) :
    i.WellFormed ∧ i.code = .arm w := by
  simp only [decodeCpOp2] at h
  repeat' split at h
  all_goals cases h
  all_goals refine ⟨rfl, congrArg Code.arm (eq_of_field ?_)⟩
  all_goals
    simp only [append_eq_field, write_read, *, Nat.reduceAdd, Nat.reducePow, Nat.reduceMod, and_true,
      true_and]
  all_goals
    simp only [test_iff, Bool.not_eq_true', ↓Bool.not_eq_true, Bool.not_eq_false'] at *
    omega

/-- What the P, U, W and low bits of LDC and STC are read as is written as those bits (R154, R284). -/
theorem cpAddressing_of_at {a : CpAddressing} (h : cpAddressingAt w = some a) :
    bit a.p = w.extractLsb' 24 1 ∧ bit a.u = w.extractLsb' 23 1 ∧ bit a.w = w.extractLsb' 21 1 ∧
      a.low = w.extractLsb' 0 8 := by
  simp only [cpAddressingAt] at h
  repeat' split at h
  all_goals cases h
  all_goals simp_all [CpAddressing.p, CpAddressing.u, CpAddressing.w, CpAddressing.low, Indexing.p, ←
    (write_read w).1]

theorem opAt_of_cpAddressingAt_none (h : cpAddressingAt w = none) : opAt w 23 2 = 0 ∧ opAt w 21 1 = 0 := by
  have h23 : opAt w 23 2 = opAt w 24 1 * 2 + opAt w 23 1 := opAt_add w 23 1 1
  simp only [cpAddressingAt] at h
  repeat' split at h
  all_goals cases h
  simp only [test_iff, ↓Bool.not_eq_true] at *
  omega

theorem code_of_cpTransfer {b l : BitVec _} {a : CpAddressing} (hc : b = w.extractLsb' 28 4) (hcls : opAt w 25 3 = 6)
    (hl : l = w.extractLsb' 20 1) (ha : cpAddressingAt w = some a) :
    cpTransferCode b (flagAt w 22) l (regAt w 16) (regAt w 12) (regAt w 8) a = w := by
  obtain ⟨hp, hu, hwb, hlow⟩ := cpAddressing_of_at ha
  refine eq_of_field ?_
  simp only [cpTransferCode, append_eq_field, write_read, Nat.reduceAdd, hc, hl, hp, hu, hwb, hlow, and_true,
    true_and]
  omega

theorem code_of_decodeCpTransfer (hc : c.bits = w.extractLsb' 28 4) (hcls : opAt w 25 3 = 6)
    (h : decodeCpTransfer c w = some i) : i.WellFormed ∧ i.code = .arm w := by
  have h20 : opAt w 20 8 = opAt w 25 3 * 32 + opAt w 20 5 := opAt_add w 20 3 5
  have h20' : opAt w 20 5 = opAt w 23 2 * 8 + opAt w 22 1 * 4 + opAt w 20 2 := opAt_add₃ w 20 2 1 2
  have h20'' : opAt w 20 2 = opAt w 21 1 * 2 + opAt w 20 1 := opAt_add w 20 1 1
  simp only [decodeCpTransfer, onlyIf] at h
  repeat' split at h
  all_goals cases h
  case h_1.refl ha hl | h_2.refl ha hl =>
    refine ⟨rfl, congrArg Code.arm (code_of_cpTransfer hc hcls ?_ ha)⟩
    rw [← (write_read w).1, hl]; rfl
  all_goals
    refine ⟨rfl, congrArg Code.arm (eq_of_field ?_)⟩
    obtain ⟨h23, h21⟩ := opAt_of_cpAddressingAt_none ‹_›
    simp only [append_eq_field, write_read, Nat.reduceAdd, hc, and_true, true_and]
    simp only [test_iff] at *
    omega

theorem code_of_decodeCpTransfer2 (hc : opAt w 28 4 = 15) (hcls : opAt w 25 3 = 6)
    (h : decodeCpTransfer2 w = some i) : i.WellFormed ∧ i.code = .arm w := by
  have h20 : opAt w 20 12 = opAt w 28 4 * 256 + opAt w 25 3 * 32 + opAt w 20 5 := opAt_add₃ w 20 4 3 5
  have h20' : opAt w 20 5 = opAt w 23 2 * 8 + opAt w 22 1 * 4 + opAt w 20 2 := opAt_add₃ w 20 2 1 2
  have h20'' : opAt w 20 2 = opAt w 21 1 * 2 + opAt w 20 1 := opAt_add w 20 1 1
  simp only [decodeCpTransfer2, onlyIf] at h
  repeat' split at h
  all_goals cases h
  case h_1.refl ha hl | h_2.refl ha hl =>
    refine ⟨rfl, congrArg Code.arm (code_of_cpTransfer (((write_read w).2.2.2 4 15 28).2 hc.symm) hcls ?_ ha)⟩
    rw [← (write_read w).1, hl]; rfl
  all_goals
    refine ⟨rfl, congrArg Code.arm (eq_of_field ?_)⟩
    obtain ⟨h23, h21⟩ := opAt_of_cpAddressingAt_none ‹_›
    simp only [append_eq_field, write_read, Nat.reduceAdd, and_true]
    simp only [test_iff] at *
    omega

theorem code_of_decodeCpsSetend (hcls : opAt w 20 12 = 0xF10) (h : decodeCpsSetend w = some i) :
    i.WellFormed ∧ i.code = .arm w := by
  have h17 : opAt w 17 15 = opAt w 20 12 * 8 + opAt w 17 3 := opAt_add w 17 12 3
  have h17' : opAt w 17 3 = opAt w 19 1 * 4 + opAt w 18 1 * 2 + opAt w 17 1 := opAt_add₃ w 17 1 1 1
  have h16 : opAt w 16 16 = opAt w 17 15 * 2 + opAt w 16 1 := opAt_add w 16 15 1
  have h10' : opAt w 10 22 = opAt w 16 16 * 64 + opAt w 10 6 := opAt_add w 10 16 6
  have h9 : opAt w 9 7 = opAt w 10 6 * 2 + opAt w 9 1 := opAt_add w 9 6 1
  have h9' : opAt w 9 8 = opAt w 16 1 * 128 + opAt w 9 7 := opAt_add w 9 1 7
  have h19 : opAt w 19 13 = opAt w 20 12 * 2 + opAt w 19 1 := opAt_add w 19 12 1
  have h5 : opAt w 5 27 = opAt w 9 23 * 16 + opAt w 5 4 := opAt_add w 5 23 4
  have h5' : opAt w 5 4 = opAt w 8 1 * 8 + opAt w 7 1 * 4 + opAt w 5 2 := opAt_add₃ w 5 1 1 2
  have h5'' : opAt w 5 2 = opAt w 6 1 * 2 + opAt w 5 1 := opAt_add w 5 1 1
  have h9'' : opAt w 9 23 = opAt w 16 16 * 128 + opAt w 9 7 := opAt_add w 9 16 7
  simp only [decodeCpsSetend, onlyIf] at h
  repeat' split at h
  all_goals cases h
  case' isFalse.isFalse.isTrue.isTrue.refl hcps => have hwf := hcps
  all_goals refine ⟨by first | rfl | exact hwf, congrArg Code.arm (eq_of_field ?_)⟩
  all_goals
    simp only [append_eq_field, write_read, Nat.reduceAdd, and_true]
    simp only [test_iff, beq_iff_eq, Bool.and_eq_true, Bool.not_eq_true', ↓Bool.not_eq_true, bne_eq_false_iff_eq,
      Nat.reducePow, Bool.or_eq_false_iff] at *
    omega

theorem code_of_decodeRfeSrs (hc : opAt w 28 4 = 15) (hcls : opAt w 25 3 = 4)
    (h : decodeRfeSrs w = some i) : i.WellFormed ∧ i.code = .arm w := by
  have h25_7 : opAt w 25 7 = opAt w 28 4 * 8 + opAt w 25 3 := opAt_add w 25 4 3
  have h5_16 : opAt w 5 16 = opAt w 20 1 * 32768 + opAt w 5 15 := opAt_add w 5 1 15
  simp only [decodeRfeSrs, onlyIf] at h
  repeat' split at h
  all_goals cases h
  all_goals refine ⟨rfl, congrArg Code.arm (eq_of_field ?_)⟩
  all_goals
    simp only [append_eq_field, write_read, Nat.reduceAdd, and_true]
    simp only [test_iff, beq_iff_eq, Nat.reducePow] at *
    omega

/-- An operand of data processing in place (R135 to R137). -/
theorem dpCode_shiftReg (hc : c.bits = w.extractLsb' 28 4) (hcls : opAt w 25 3 = 0) (h4 : flagAt w 4 = true)
    (h7 : flagAt w 7 = false) : dpCode c (w.extractLsb' 21 4) (w.extractLsb' 20 1) (w.extractLsb' 16 4)
      (w.extractLsb' 12 4) (.shiftReg (shiftByRegAt w)) = w := by
  refine eq_of_field ?_
  simp only [dpCode, shiftByRegAt, shiftType_bits_ofBits, append_eq_field, write_read, Nat.reduceAdd, hc, and_true,
    true_and]
  simp only [test_iff] at *
  omega

theorem dpCode_shiftImm (hc : c.bits = w.extractLsb' 28 4) (hcls : opAt w 25 3 = 0) (h4 : flagAt w 4 = false) :
    dpCode c (w.extractLsb' 21 4) (w.extractLsb' 20 1) (w.extractLsb' 16 4) (w.extractLsb' 12 4)
      (.shiftImm (shiftByImmAt w)) = w := by
  refine eq_of_field ?_
  simp only [dpCode, shiftByImmAt, shiftType_bits_ofBits, append_eq_field, write_read, Nat.reduceAdd, hc, and_true,
    true_and]
  simp only [test_iff] at *
  omega

theorem dpCode_imm (hc : c.bits = w.extractLsb' 28 4) (hcls : opAt w 25 3 = 1) :
    dpCode c (w.extractLsb' 21 4) (w.extractLsb' 20 1) (w.extractLsb' 16 4) (w.extractLsb' 12 4)
      (.imm (rotatedImmAt w)) = w := by
  refine eq_of_field ?_
  simp only [dpCode, rotatedImmAt, append_eq_field, write_read, Nat.reduceAdd, hc, and_true, true_and]
  omega

theorem opAt_of_inMiscSpace (h : inMiscSpace w = true) : opAt w 23 2 = 2 ∧ opAt w 20 1 = 0 := by
  simpa only [inMiscSpace, Bool.and_eq_true, beq_iff_eq, Bool.not_eq_true', test_iff] using h

theorem code_of_decodeClass0 (hc : c.bits = w.extractLsb' 28 4) (hcls : opAt w 25 3 = 0)
    (h : decodeClass0 c w = some i) : i.WellFormed ∧ i.code = .arm w := by
  have h20 : opAt w 20 8 = opAt w 25 3 * 32 + opAt w 23 2 * 8 + opAt w 20 3 := opAt_add₃ w 20 3 2 3
  have h20' : opAt w 20 3 = opAt w 21 2 * 2 + opAt w 20 1 := opAt_add w 20 2 1
  have h4' : opAt w 4 4 = opAt w 7 1 * 8 + opAt w 5 2 * 2 + opAt w 4 1 := opAt_add₃ w 4 1 2 1
  have hop (hmisc : inMiscSpace w = true) : opAt w 20 8 = opAt w 21 2 * 2 + 16 := by
    obtain ⟨h23, hs⟩ := opAt_of_inMiscSpace hmisc
    omega
  simp only [decodeClass0] at h
  repeat' split at h
  case isTrue.isTrue.isTrue h4 h7 h5 =>
    refine code_of_decodeMulSwap hc hcls ?_ h
    simp only [test_iff, beq_iff_eq] at *
    omega
  case isTrue.isTrue.isFalse h4 h7 _ => exact code_of_decodeHalf hc hcls h4 h7 h
  case isTrue.isFalse.isTrue hmisc => exact code_of_decodeMisc hc (hop hmisc) h
  case isTrue.isFalse.isFalse h4 h7 _ =>
    exact code_of_decodeDp (dpCode_shiftReg hc hcls h4 (Bool.eq_false_of_not_eq_true h7)) h
  case isFalse.isTrue.isTrue h4 hmisc h7 =>
    exact code_of_decodeHalfMul hc (hop hmisc) (Bool.eq_false_of_not_eq_true h4) h7 h
  case isFalse.isTrue.isFalse.isTrue hmisc _ _ => exact code_of_decodeStatus hc (hop hmisc) h
  case isFalse.isTrue.isFalse.isFalse hmisc _ _ => exact code_of_decodeMisc hc (hop hmisc) h
  case isFalse.isFalse h4 _ =>
    exact code_of_decodeDp (dpCode_shiftImm hc hcls (Bool.eq_false_of_not_eq_true h4)) h

theorem code_of_decodeClass1 (hc : c.bits = w.extractLsb' 28 4) (hcls : opAt w 25 3 = 1)
    (h : decodeClass1 c w = some i) : i.WellFormed ∧ i.code = .arm w := by
  have h23 : opAt w 23 5 = opAt w 25 3 * 4 + opAt w 23 2 := opAt_add w 23 3 2
  have h21 : opAt w 21 2 = opAt w 22 1 * 2 + opAt w 21 1 := opAt_add w 21 1 1
  have h20 : opAt w 20 2 = opAt w 21 1 * 2 + opAt w 20 1 := opAt_add w 20 1 1
  have hlt := opAt_lt w 21 1
  simp only [decodeClass1, onlyIf] at h
  split at h
  case isTrue hmisc =>
    obtain ⟨hm, hs⟩ := opAt_of_inMiscSpace hmisc
    repeat' split at h
    all_goals cases h
    all_goals
      refine ⟨rfl, congrArg Code.arm (eq_of_field ?_)⟩
      simp only [msrCode, rotatedImmAt, append_eq_field, write_read, Nat.reduceAdd, hc, and_true, true_and]
      simp only [beq_iff_eq] at *
      omega
  case isFalse => exact code_of_decodeDp (dpCode_imm hc hcls) h

theorem code_of_decodeMedia (hc : c.bits = w.extractLsb' 28 4) (hcls : opAt w 25 3 = 3) (h4 : flagAt w 4 = true)
    (h : decodeMedia c w = some i) : i.WellFormed ∧ i.code = .arm w := by
  have h23 : opAt w 23 5 = opAt w 25 3 * 4 + opAt w 23 2 := opAt_add w 23 3 2
  have hlt := opAt_lt w 23 2
  simp only [decodeMedia] at h
  split at h
  case h_1 => exact code_of_decodeParallel hc (by omega) h4 h
  case h_2 => exact code_of_decodePack hc (by omega) h
  case h_3 => exact code_of_decodeDualMul hc (by omega) h4 h
  case h_4 =>
    simp only [imp_false] at *
    exact code_of_decodeSad hc (by omega) h4 h

/-- The offset of a word or byte transfer in place (R147). -/
theorem wordCode_imm (hc : c.bits = w.extractLsb' 28 4) (hcls : opAt w 25 3 = 2) :
    wordCode c (w.extractLsb' 24 1) (flagAt w 23) (w.extractLsb' 22 1) (w.extractLsb' 21 1) (w.extractLsb' 20 1)
      (regAt w 16) (regAt w 12) (.imm (w.extractLsb' 0 12)) = w := by
  refine eq_of_field ?_
  simp only [wordCode, append_eq_field, write_read, Nat.reduceAdd, hc, and_true, true_and]
  omega

theorem wordCode_reg (hc : c.bits = w.extractLsb' 28 4) (hcls : opAt w 25 3 = 3) (h4 : flagAt w 4 = false) :
    wordCode c (w.extractLsb' 24 1) (flagAt w 23) (w.extractLsb' 22 1) (w.extractLsb' 21 1) (w.extractLsb' 20 1)
      (regAt w 16) (regAt w 12) (.reg (shiftByImmAt w)) = w := by
  refine eq_of_field ?_
  simp only [wordCode, shiftByImmAt, shiftType_bits_ofBits, append_eq_field, write_read, Nat.reduceAdd, hc,
    and_true, true_and]
  simp only [test_iff] at *
  omega

theorem code_of_decodeUnconditional (hc : opAt w 28 4 = 15) (h : decodeUnconditional w = some i) :
    i.WellFormed ∧ i.code = .arm w := by
  have h25 : opAt w 25 7 = opAt w 28 4 * 8 + opAt w 25 3 := opAt_add w 25 4 3
  have h24 : opAt w 24 8 = opAt w 25 7 * 2 + opAt w 24 1 := opAt_add w 24 7 1
  have h20 : opAt w 20 12 = opAt w 25 7 * 32 + opAt w 20 5 := opAt_add w 20 7 5
  simp only [decodeUnconditional, onlyIf] at h
  repeat' split at h
  case h_1.isTrue hcls h20 =>
    refine code_of_decodeCpsSetend ?_ h
    simp only [beq_iff_eq] at *
    omega
  case h_4 hcls => exact code_of_decodeRfeSrs hc hcls h
  case h_6 hcls => exact code_of_decodeCpTransfer2 hc hcls h
  case h_7.isFalse hcls hop =>
    refine code_of_decodeCpOp2 ?_ h
    simp only [test_iff, ↓Bool.not_eq_true] at *
    omega
  all_goals cases h
  all_goals
    refine ⟨rfl, congrArg Code.arm (eq_of_field ?_)⟩
    simp only [pldCode, shiftByImmAt, shiftType_bits_ofBits, append_eq_field, write_read, Nat.reduceAdd, and_true]
    simp only [test_iff, beq_iff_eq, Bool.and_eq_true, Bool.not_eq_true', Nat.reducePow] at *
    omega

end

/-! ## The condition field -/

theorem bits_of_ofBits {b : BitVec 4} {c : Cond} (h : Cond.ofBits b = some c) : c.bits = b := by
  have hall : ∀ b : BitVec 4, (Cond.ofBits b).all (·.bits == b) = true := by decide
  simpa [h] using hall b

theorem eq_of_ofBits_none {b : BitVec 4} (h : Cond.ofBits b = none) : b = 15 := by
  revert b; decide

theorem code_of_decodeArm {w : Word} {i : Instr} (h : decodeArm w = some i) : i.WellFormed ∧ i.code = .arm w := by
  have h24 : opAt w 24 4 = opAt w 25 3 * 2 + opAt w 24 1 := opAt_add w 24 3 1
  have hlt := opAt_lt w 25 3
  unfold decodeArm at h
  split at h
  case h_1 hb => exact code_of_decodeUnconditional (congrArg BitVec.toNat (eq_of_ofBits_none hb)) h
  case h_2 hb =>
    have hc := bits_of_ofBits hb
    repeat' split at h
    case h_1 hcls => exact code_of_decodeClass0 hc hcls h
    case h_2 hcls => exact code_of_decodeClass1 hc hcls h
    case h_3 hcls => exact code_of_decodeWord (wordCode_imm hc hcls) (Option.some.inj h)
    case h_4.isTrue hcls h4 => exact code_of_decodeMedia hc hcls h4 h
    case h_4.isFalse hcls h4 =>
      exact code_of_decodeWord (wordCode_reg hc hcls (Bool.eq_false_of_not_eq_true h4)) (Option.some.inj h)
    case h_5 hcls => exact code_of_decodeBlock hc hcls h
    case h_7 hcls => exact code_of_decodeCpTransfer hc hcls h
    case h_8.isFalse hop =>
      refine code_of_decodeCpOp hc ?_ h
      simp only [test_iff, ↓Bool.not_eq_true, imp_false] at *
      omega
    all_goals cases h
    all_goals
      refine ⟨rfl, congrArg Code.arm (eq_of_field ?_)⟩
      simp only [append_eq_field, write_read, Nat.reduceAdd, hc, and_true, true_and]
      simp only [test_iff, ↓Bool.not_eq_true, imp_false] at *
      omega

/-! ## Thumb: each part of the decoder writes back the halfword it read -/

section
variable {h : Half} {i : Instr}

theorem code_of_decodeThumbAlu (hop : opAt h 10 6 = 16) :
    (decodeThumbAlu h).WellFormed ∧ (decodeThumbAlu h).code = .thumb h := by
  have h6 : opAt h 6 10 = opAt h 10 6 * 16 + opAt h 6 4 := opAt_add h 6 6 4
  have hlt := opAt_lt h 6 4
  rw [hop] at h6
  unfold decodeThumbAlu
  split
  all_goals refine ⟨rfl, congrArg Code.thumb (eq_of_field ?_)⟩
  all_goals
    simp only [append_eq_field, write_read, *, Nat.reduceAdd, Nat.reduceMul, Nat.reducePow, Nat.reduceMod, and_true]
  simp only [imp_false] at *
  omega

/-- The H1 bit and the low field of a high-register form are the register's four bits (R164). -/
theorem regBits_high (a : BitVec 1) (b : BitVec 3) :
    (regBits (a ++ b : BitVec 4).toFin).extractLsb' 3 1 = a ∧ (regBits
      (a ++ b : BitVec 4).toFin).extractLsb' 0 3 = b :=
  parts_of_append a b

/-- With neither register high, the two fields are low registers. -/
theorem high_eq_zero (a : BitVec 1) (b : BitVec 3) (m : RegNum) (h : someHigh (a ++ b : BitVec 4).toFin m = false) :
    a = 0 ∧ m.val < 8 := by
  revert a b m
  decide

theorem code_of_decodeThumbHigh (hop : opAt h 10 6 = 17) (hi : decodeThumbHigh h = some i) :
    i.WellFormed ∧ i.code = .thumb h := by
  have h8 : opAt h 8 8 = opAt h 10 6 * 4 + opAt h 8 2 := opAt_add h 8 6 2
  have h7 : opAt h 7 9 = opAt h 8 8 * 2 + opAt h 7 1 := opAt_add h 7 8 1
  have h6 : opAt h 6 10 = opAt h 7 9 * 2 + opAt h 6 1 := opAt_add h 6 9 1
  have h3 : opAt h 3 4 = opAt h 6 1 * 8 + opAt h 3 3 := opAt_add h 3 1 3
  have hlt := opAt_lt h 8 2
  simp only [decodeThumbHigh, onlyIf] at hi
  repeat' split at hi
  all_goals cases hi
  case h_1.isTrue.refl hwf | h_2.isTrue.refl hwf | h_3.isTrue.refl hwf =>
    refine ⟨hwf, congrArg Code.thumb (eq_of_field ?_)⟩
    simp only [regBits_high, append_eq_field, write_read, Nat.reduceAdd, and_true]
    omega
  case h_3.isFalse.refl hlow =>
    obtain ⟨hd, hm⟩ := high_eq_zero _ _ _ (Bool.eq_false_of_not_eq_true hlow)
    have h7' : opAt h 7 1 = 0 := congrArg BitVec.toNat hd
    have hm' : opAt h 3 4 < 8 := hm
    refine ⟨rfl, congrArg Code.thumb (eq_of_field ?_)⟩
    simp only [append_eq_field, write_read, Nat.reduceAdd, and_true]
    omega
  all_goals refine ⟨rfl, congrArg Code.thumb (eq_of_field ?_)⟩
  all_goals
    simp only [append_eq_field, write_read, Nat.reduceAdd, and_true]
    simp only [test_iff, beq_iff_eq, ↓Bool.not_eq_true, imp_false, Nat.reducePow] at *
    omega

theorem code_of_decodeThumbMisc0 (hop : opAt h 11 5 = 22) (hi : decodeThumbMisc0 h = some i) :
    i.WellFormed ∧ i.code = .thumb h := by
  have h8 : opAt h 8 8 = opAt h 11 5 * 8 + opAt h 8 3 := opAt_add h 8 5 3
  have h9 : opAt h 9 7 = opAt h 11 5 * 4 + opAt h 9 2 := opAt_add h 9 5 2
  have h7 : opAt h 7 9 = opAt h 8 8 * 2 + opAt h 7 1 := opAt_add h 7 8 1
  have h6 : opAt h 6 10 = opAt h 8 8 * 4 + opAt h 6 2 := opAt_add h 6 8 2
  have h5 : opAt h 5 11 = opAt h 8 8 * 8 + opAt h 5 3 := opAt_add h 5 8 3
  have h4 : opAt h 4 12 = opAt h 5 11 * 2 + opAt h 4 1 := opAt_add h 4 11 1
  have hlt := opAt_lt h 6 2
  simp only [decodeThumbMisc0, onlyIf] at hi
  repeat' split at hi
  all_goals cases hi
  all_goals refine ⟨rfl, congrArg Code.thumb (eq_of_field ?_)⟩
  all_goals
    simp only [append_eq_field, write_read, *, Nat.reduceAdd, Nat.reduceMul, Nat.reducePow, Nat.reduceMod, and_true,
      true_and]
  all_goals
    simp only [test_iff, beq_iff_eq, Bool.and_eq_true, Bool.not_eq_true', ↓Bool.not_eq_true, imp_false,
      beq_eq_false_iff_ne, Nat.reducePow] at *
    omega

theorem code_of_decodeThumbMisc1 (hop : opAt h 11 5 = 23) (hi : decodeThumbMisc1 h = some i) :
    i.WellFormed ∧ i.code = .thumb h := by
  have h8 : opAt h 8 8 = opAt h 11 5 * 8 + opAt h 8 3 := opAt_add h 8 5 3
  have h9 : opAt h 9 7 = opAt h 11 5 * 4 + opAt h 9 2 := opAt_add h 9 5 2
  have h6 : opAt h 6 10 = opAt h 8 8 * 4 + opAt h 6 2 := opAt_add h 6 8 2
  simp only [decodeThumbMisc1] at hi
  repeat' split at hi
  all_goals cases hi
  all_goals refine ⟨rfl, congrArg Code.thumb (eq_of_field ?_)⟩
  all_goals
    simp only [append_eq_field, write_read, *, Nat.reduceAdd, Nat.reduceMul, Nat.reducePow, Nat.reduceMod, and_true]
  all_goals
    simp only [beq_iff_eq] at *
    omega

theorem code_of_decodeThumbCond (hop : opAt h 12 4 = 13) (hi : decodeThumbCond h = some i) :
    i.WellFormed ∧ i.code = .thumb h := by
  have h8 : opAt h 8 8 = opAt h 12 4 * 16 + opAt h 8 4 := opAt_add h 8 4 4
  simp only [decodeThumbCond] at hi
  split at hi
  case h_3 hal _ =>
    obtain ⟨c, hc, rfl⟩ := Option.map_eq_some_iff.1 hi
    have hbits := bits_of_ofBits hc
    have hwf : c ≠ .al := by
      rintro rfl
      exact hal (congrArg BitVec.toNat hbits).symm
    refine ⟨bne_iff_ne.2 hwf, congrArg Code.thumb (eq_of_field ?_)⟩
    simp only [hbits, append_eq_field, write_read, Nat.reduceAdd, and_true]
    omega
  all_goals cases hi
  all_goals
    refine ⟨rfl, congrArg Code.thumb (eq_of_field ?_)⟩
    simp only [append_eq_field, write_read, Nat.reduceAdd, and_true]
    omega

theorem code_of_decodeThumbHalf (hi : decodeThumbHalf h = some i) : i.WellFormed ∧ i.code = .thumb h := by
  have h10 : opAt h 10 6 = opAt h 11 5 * 2 + opAt h 10 1 := opAt_add h 10 5 1
  have h9 : opAt h 9 7 = opAt h 11 5 * 4 + opAt h 9 2 := opAt_add h 9 5 2
  have h12 : opAt h 12 4 * 2 + opAt h 11 1 = opAt h 11 5 := (opAt_add h 11 4 1).symm
  have hlt := opAt_lt h 11 5
  have hlt' := opAt_lt h 11 1
  have hlt'' := opAt_lt h 9 2
  simp only [decodeThumbHalf, onlyIf] at hi
  repeat' split at hi
  case isTrue hop => exact code_of_decodeThumbCond (beq_iff_eq.1 hop) hi
  case h_9.isTrue hop h10' =>
    refine code_of_decodeThumbHigh ?_ hi
    simp only [test_iff] at *
    omega
  case h_9.isFalse hop h10' =>
    cases hi
    refine code_of_decodeThumbAlu ?_
    simp only [test_iff, ↓Bool.not_eq_true] at *
    omega
  case h_23 hop => exact code_of_decodeThumbMisc0 hop hi
  case h_24 hop => exact code_of_decodeThumbMisc1 hop hi
  all_goals cases hi
  all_goals refine ⟨rfl, congrArg Code.thumb (eq_of_field ?_)⟩
  all_goals
    simp only [append_eq_field, write_read, *, Nat.reduceAdd, Nat.reduceMul, Nat.reducePow, Nat.reduceMod, and_true,
      true_and]
  all_goals
    simp only [test_iff, Bool.not_eq_true', ↓Bool.not_eq_true, imp_false, beq_eq_false_iff_ne, Nat.reducePow] at *
    omega

end

/-- Settles O10: part by part of the two decoders. -/
theorem decodedWordsAreWellFormed : Obligations.DecodedWordsAreWellFormed :=
  ⟨fun _ _ => code_of_decodeArm, fun _ _ => code_of_decodeThumbHalf⟩

end Sys2Proof
end

section
/-! Proofs. The whole machine, tier 1: O1, O2, O4, O5, O7, O11, O17. -/

namespace Sys2Proof.Machine

set_option Elab.async false

/-! ## Reset -/

/-- Settles O1: each field of the reset state is a literal. -/
theorem resetHasTheStatedValues : Obligations.ResetHasTheStatedValues := by
  unfold Obligations.ResetHasTheStatedValues
  decide

/-- Settles O2: the mode, the status bits and the alignment are those of the literals of the reset state, and its memory
is empty. -/
theorem resetMeetsTheInvariant : Obligations.ResetMeetsTheInvariant :=
  ⟨by decide, by decide, by decide, by decide, by decide, reset_memory_wf⟩

/-! ## The exceptions that an instruction asks for -/

/-- Settles O17: each of these instructions is the raise of its exception in the state it starts from. -/
theorem trapInstructionsTakeTheirException : Obligations.TrapInstructionsTakeTheirException := by
  intro s c imm24 imm16 imm8
  refine ⟨fun hc => ?_, rfl, rfl, rfl, rfl⟩
  rw [exec_of_passed (body := raise .softwareInterrupt s) hc rfl, finish_raise]

/-! ## The order of the inputs -/

theorem step_reset {s : State} (h : s.resetPending = true) : step s = .next (takeReset s) := if_pos h

theorem step_fiq {s : State} (hr : s.resetPending = false) (hp : s.fiqPending = true) (hm : s.fiqMasked = false) :
    step s = .next (enter .fiq s) := by
  simp [step, hr, hp, hm]

theorem not_taken {pending masked : Bool} (h : pending = true → masked = true) : (pending && !masked) = false := by
  cases pending <;> simp_all

theorem step_irq {s : State} (hr : s.resetPending = false) (hf : s.fiqPending = true → s.fiqMasked = true)
    (hp : s.irqPending = true) (hm : s.irqMasked = false) : step s = .next (enter .irq s) := by
  simp [step, hr, not_taken hf, hp, hm]

theorem step_runNext {s : State} (hr : s.resetPending = false) (hf : s.fiqPending = true → s.fiqMasked = true)
    (hi : s.irqPending = true → s.irqMasked = true) : step s = s.runNext := by
  simp [step, hr, not_taken hf, not_taken hi]

/-- The cpsr after a reset: that of supervisor mode with A, I and F set, and free flags (R75, R701). -/
theorem takeReset_cpsr (s : State) :
    (takeReset s).cpsr = maskWrite (Exc.psr .reset 0) (Config.freeWord (s.freeCount + 35)) 0xF80F0000 := rfl

/-- A bit of the cpsr after a reset that is no flag is that of supervisor mode with A, I and F set. -/
theorem takeReset_cpsr_getLsbD (s : State) {j : Nat} (hj : j < 32) (hm : (0xF80F0000 : Word).getLsbD j = false) :
    (takeReset s).cpsr.getLsbD j = (Exc.psr .reset 0).getLsbD j := by
  rw [takeReset_cpsr, maskWrite_getLsbD _ _ _ _ hj, hm, if_neg Bool.false_ne_true]

theorem takeReset_modeField (s : State) : modeField (takeReset s).cpsr = Mode.svc.bits := by
  have hmask : ∀ j < 5, (0xF80F0000 : Word).getLsbD (0 + j) = false := by decide
  rw [show Mode.svc.bits = _ from (Exc.modeField_psr .reset 0).symm]
  refine BitVec.eq_of_getLsbD_eq fun j hj => ?_
  simp only [modeField, BitVec.getLsbD_extractLsb', takeReset_cpsr_getLsbD s (by omega : 0 + j < 32) (hmask j hj)]

theorem takeReset_mode? (s : State) : (takeReset s).mode? = some .svc := by
  rw [State.mode?, takeReset_modeField, Mode.ofBits_bits]

theorem takeReset_valid (s : State) : (takeReset s).cpsr &&& ~~~psrValid = 0 := by
  have hmask : ∀ j < 32, psrValid.getLsbD j = false → (0xF80F0000 : Word).getLsbD j = false := by decide
  refine BitVec.eq_of_getLsbD_eq fun j hj => ?_
  have hpsr := congrArg (BitVec.getLsbD · j) (Exc.psr_valid .reset 0)
  simp only [BitVec.getLsbD_and, BitVec.getLsbD_not, decide_eq_true hj, Bool.true_and] at hpsr ⊢
  cases hv : psrValid.getLsbD j with
  | true => simp
  | false => rwa [takeReset_cpsr_getLsbD s hj (hmask j hj hv), ← hv]

theorem takeReset_aBit (s : State) : (takeReset s).aBit = false := by
  simp [State.aBit, show (takeReset s).cp15c1 = s.cp15c1 &&& ~~~0x00400002 from rfl]

theorem takeReset_uBit (s : State) : (takeReset s).uBit = false := by
  simp [State.uBit, show (takeReset s).cp15c1 = s.cp15c1 &&& ~~~0x00400002 from rfl]

/-- Settles O5: the four branches of a step, and the state that its first one leaves. -/
theorem inputsAreTakenBeforeTheInstruction : Obligations.InputsAreTakenBeforeTheInstruction := by
  refine fun s => ⟨fun hr => ⟨takeReset s, step_reset hr, takeReset_mode? s, ?_⟩,
    fun hr => ⟨step_fiq hr, step_irq hr, step_runNext hr⟩⟩
  have hbit := fun {j : Nat} (hj : j < 32) (hm : (0xF80F0000 : Word).getLsbD j = false) =>
    (takeReset_cpsr_getLsbD s hj hm).trans (Exc.psr_getLsbD .reset 0 hj)
  exact ⟨hbit (by decide) (by decide), hbit (by decide) (by decide), hbit (by decide) (by decide),
    hbit (by decide) (by decide), hbit (by decide) (by decide), hbit (by decide) (by decide), takeReset_valid s,
    BitVec.add_zero _, takeReset_aBit s, takeReset_uBit s, rfl, rfl, rfl⟩

/-! ## What is fetched is decoded and run -/

theorem State.run_of_decode {s : State} {bytes rest : List Byte} {i : Instr}
    (h : decode s.thumb bytes = .ok (i, rest)) : s.run bytes = exec i s := by
  simp only [State.run, h]

theorem State.run_of_unlisted {s : State} {bytes : List Byte} {e : DecodeError} (h : decode s.thumb bytes = .error e) :
    s.run bytes = finish (s.unlisted e) := by
  simp only [State.run, h]

theorem decodeArmBytes_unlisted {w : Word} (h : decodeArm w = none) :
    decodeArmBytes (Sys2Proof.wordBytes w) = .error (.unlistedArm w) := by
  simp only [Sys2Proof.wordBytes, decodeArmBytes, wordBytes_append, h]

/-- Settles O7: the decoder's error carries the word, whose condition decides between the trap and the advance. -/
theorem unlistedEncodingsTrap : Obligations.UnlistedEncodingsTrap := by
  refine fun s w h => ⟨fun ht hw => ?_, fun ht hh => ?_⟩
  · have hdec : decode s.thumb (Sys2Proof.wordBytes w) = .error (.unlistedArm w) := by
      rw [decode, ht, if_neg Bool.false_ne_true, decodeArmBytes_unlisted hw]
    rw [State.run_of_unlisted hdec, State.unlisted]
    cases Cond.ofBits (w.extractLsb' 28 4) with
    | none => exact finish_raise .undefined s
    | some c =>
      show finish (if s.passed c then raise .undefined s else s.advance 4) = if s.passed c then _ else _
      simp only [apply_ite finish, finish_raise, State.advance, finish_unpredictable, finish_ok]
      rfl
  · have hdec : decode s.thumb (halfBytes h) = .error (.unlistedThumb h) := by
      rw [decode, ht, if_pos rfl]
      simp only [halfBytes, decodeThumbBytes, halfBytes_append, decodeHalfBytes, hh]
    rw [State.run_of_unlisted hdec]
    exact finish_raise .undefined s

theorem State.bytesAt_two (s : State) (a : Word) : s.bytesAt a 2 = [s.byte a, s.byte (a + 1)] := rfl

theorem State.bytesAt_four (s : State) (a : Word) :
    s.bytesAt a 4 = [s.byte a, s.byte (a + 1), s.byte (a + 2), s.byte (a + 3)] := by
  have h2 : a + 1 + 1 = a + 2 := by bv_omega
  have h3 : a + 2 + 1 = a + 3 := by bv_omega
  simp only [State.bytesAt, h2, h3]

theorem State.runNext_of_fetch {s : State} {bytes : List Byte} (hm : s.mode?.isSome = true) (hj : s.java = false)
    (hf : s.fetch = .ok bytes) : s.runNext = s.run bytes := by
  simp [State.runNext, Option.isNone_eq_false_iff.mpr hm, hj, hf]

theorem State.runNext_of_abort {s : State} (hm : s.mode?.isSome = true) (hj : s.java = false)
    (hf : s.fetch = raise .prefetchAbort s) : s.runNext = .next (enter .prefetchAbort s) := by
  have hf' : s.fetch = .error (.raise .prefetchAbort s) := hf
  simp only [State.runNext, Option.isNone_eq_false_iff.mpr hm, hj, hf', Bool.false_eq_true, if_false]
  exact finish_raise .prefetchAbort s

theorem State.fetch_arm {s : State} (ht : s.thumb = false) (ha : s.pc &&& 3 = 0) : s.fetch =
    if s.extAbort s.pc 4 .fetch s.privileged then raise .prefetchAbort s else .ok (s.bytesAt s.pc 4) := by
  simp [State.fetch, ht, (wordAligned_iff s.pc).mpr ha]

theorem State.fetch_thumb {s : State} (ht : s.thumb = true) (ha : s.pc &&& 1 = 0) : s.fetch =
    if s.extAbort s.pc 2 .fetch s.privileged then raise .prefetchAbort s
    else if isBlPrefix (s.byte (s.pc + 1) ++ s.byte s.pc) then
      if crossesTop s.pc 4 then unpredictable .addressWrap
      else if s.extAbort (s.pc + 2) 2 .fetch s.privileged then raise .prefetchAbort s
      else .ok (s.bytesAt s.pc 4)
    else .ok (s.bytesAt s.pc 2) := by
  have hbit : s.pc.getLsbD 0 = false := by rw [getLsbD_zero_eq, ha]; rfl
  rw [State.fetch, if_pos ht, hbit, if_neg Bool.false_ne_true]

/-- Settles O4: the fetch in each state of the machine, then what the decoder reads from its bytes. -/
theorem stepRunsTheDecodedInstruction : Obligations.StepRunsTheDecodedInstruction := by
  intro s i hm hj hr hfiq hirq
  rw [step_runNext hr hfiq hirq]
  simp only [BitVec.ofNat_eq_ofNat, BitVec.add_zero]
  refine ⟨fun ht ha => ⟨fun hab => ?_, fun hab hdec => ?_⟩,
    fun ht ha => ⟨fun hab => ?_, fun hab hpre hdec => ?_, fun hab hpre hw => ⟨fun hab2 => ?_, fun hab2 hdec => ?_,
      fun hab2 hpair hdec => ?_⟩⟩⟩
  · exact State.runNext_of_abort hm hj (by rw [State.fetch_arm ht ha, hab, if_pos rfl])
  · rw [State.runNext_of_fetch hm hj (by rw [State.fetch_arm ht ha, hab, if_neg Bool.false_ne_true])]
    refine State.run_of_decode (rest := []) ?_
    simp [decode, ht, State.bytesAt_four, decodeArmBytes, hdec]
  · exact State.runNext_of_abort hm hj (by rw [State.fetch_thumb ht ha, hab, if_pos rfl])
  · rw [State.runNext_of_fetch (bytes := s.bytesAt s.pc 2) hm hj (by rw [State.fetch_thumb ht ha]; simp [hab, hpre])]
    refine State.run_of_decode (rest := []) ?_
    simp [decode, ht, State.bytesAt_two, decodeThumbBytes, decodeHalfBytes, hdec]
  · exact State.runNext_of_abort hm hj (by rw [State.fetch_thumb ht ha]; simp [hab, hpre, hw, hab2])
  · rw [State.runNext_of_fetch (bytes := s.bytesAt s.pc 4) hm hj
      (by rw [State.fetch_thumb ht ha]; simp [hab, hpre, hw, hab2])]
    refine State.run_of_decode (rest := []) ?_
    simp [decode, ht, State.bytesAt_four, decodeThumbBytes, hdec]
  · rw [State.runNext_of_fetch (bytes := s.bytesAt s.pc 4) hm hj
      (by rw [State.fetch_thumb ht ha]; simp [hab, hpre, hw, hab2])]
    refine State.run_of_decode (rest := [s.byte (s.pc + 2), s.byte (s.pc + 3)]) ?_
    simp [decode, ht, State.bytesAt_four, decodeThumbBytes, decodeHalfBytes, hpair, hdec]

/-- Settles O11: the decoder evaluated at the eight words. -/
theorem exampleWordsDecode : Obligations.ExampleWordsDecode := by
  unfold Obligations.ExampleWordsDecode
  decide

end Sys2Proof.Machine
end

section
/-! Proofs. What a write of status bits leaves, and data processing whose Rd is not pc: O19, O20, O21, O23. -/

namespace Sys2Proof.Machine

set_option Elab.async false

/-! ## Writes of status bits -/

/-- A bit under the mask may change. -/
theorem setBit_and_not {mask : Word} {i : Nat} (w : Word) (b : Bool) (hi : i < 32) (hm : mask.getLsbD i = true) :
    setBit w i b &&& ~~~mask = w &&& ~~~mask := by
  refine BitVec.eq_of_getLsbD_eq fun j hj => ?_
  rw [BitVec.getLsbD_and, BitVec.getLsbD_and, BitVec.getLsbD_not, setBit_getLsbD _ _ _ _ hi hj]
  by_cases h : j = i
  · subst h; simp [hm]
  · simp [h]

/-- A bit that no bit of the mask covers is as before. -/
theorem getLsbD_of_and_not {w v mask : Word} (h : w &&& ~~~mask = v &&& ~~~mask) {j : Nat} (hj : j < 32)
    (hm : mask.getLsbD j = false) : w.getLsbD j = v.getLsbD j := by
  have hbit := congrArg (BitVec.getLsbD · j) h
  simpa only [BitVec.getLsbD_and, BitVec.getLsbD_not, hj, hm, decide_true, Bool.not_false, Bool.and_true] using hbit

/-- A mask above the mode field leaves the mode. -/
theorem modeField_of_and_not {w v mask : Word} (h : w &&& ~~~mask = v &&& ~~~mask)
    (hm : ∀ j < 5, mask.getLsbD j = false) : modeField w = modeField v := by
  refine BitVec.eq_of_getLsbD_eq fun j hj => ?_
  rw [modeField, modeField, BitVec.getLsbD_extractLsb', BitVec.getLsbD_extractLsb', Nat.zero_add,
    getLsbD_of_and_not h (by omega) (hm j hj)]

theorem mode?_of_sameStatus {s t : State} {mask : Word} (h : SameStatus s t mask)
    (hm : ∀ j < 5, mask.getLsbD j = false) : t.mode? = s.mode? :=
  congrArg Mode.ofBits (modeField_of_and_not h hm)

/-- `u` is `s` with copies of `dests`, status bits under `mask` and the count of free values written. -/
structure Written (s u : State) (dests : List RegNum) (mask : Word) : Prop where
  regs : SameRegs s u dests
  status : SameStatus s u mask
  system : SameSystem s u
  mem : u.mem = s.mem
  pc : u.pc = s.pc

theorem Written.refl (s : State) (dests : List RegNum) (mask : Word) : Written s s dests mask :=
  ⟨SameRegs.refl s dests, rfl, SameSystem.refl s, rfl, rfl⟩

section
variable {s u : State} {dests : List RegNum} {mask : Word} (h : Written s u dests mask)
include h

theorem Written.setCpsr {w : Word} (hw : w &&& ~~~mask = u.cpsr &&& ~~~mask) : Written s (u.setCpsr w) dests mask :=
  ⟨h.regs, hw.trans h.status, h.system.setCpsr w, h.mem, h.pc⟩

theorem Written.drawBit : Written s u.drawBit.2 dests mask :=
  ⟨h.regs, h.status, { h.system with }, h.mem, h.pc⟩

theorem Written.setPc_frame (next : Word) : Frame s (u.setPc next) next dests mask :=
  ⟨rfl, h.regs, h.status, h.system.setPc next, .of_mem_eq h.mem⟩

theorem Written.advance_eq {len : Nat} (hpc : s.pc.toNat + len < 2 ^ 32) :
    u.advance len = .ok (u.setPc (s.pc + BitVec.ofNat 32 len)) := by
  rw [← h.pc] at hpc ⊢
  exact State.advance_eq hpc

variable (hm : ∀ j < 5, mask.getLsbD j = false)
include hm

theorem Written.setReg {rd : RegNum} (hrd : rd ∈ dests) (v : Word) : Written s (u.setReg rd v) dests mask := by
  rw [State.setReg_eq, mode?_of_sameStatus h.status hm]
  exact ⟨h.regs.setRegIn v hrd, by rw [SameStatus, u.setRegIn_cpsr]; exact h.status, h.system.setRegIn .., by
    rw [u.setRegIn_mem, h.mem], by rw [u.setRegIn_pc, h.pc]⟩

/-- A register written in `u` reads back in every later state with the same registers and mode. -/
theorem Written.reg_setReg {t : State} {rd : RegNum} {v : Word} (hrd : rd ≠ 15)
    (hregs : t.regs = (u.setReg rd v).regs) (ht : t.mode? = s.mode?) : t.reg rd = v :=
  State.reg_of_setReg hrd hregs (ht.trans (mode?_of_sameStatus h.status hm).symm)

end

/-- Only Rd written. -/
theorem State.written_setReg (s : State) (rd : RegNum) (v : Word) {mask : Word}
    (hm : ∀ j < 5, mask.getLsbD j = false) : Written s (s.setReg rd v) [rd] mask :=
  (Written.refl s [rd] mask).setReg hm List.mem_cons_self v

/-- Two registers written, one after the other. -/
theorem State.reg_of_setReg_setReg {s t : State} {a b : RegNum} {v w : Word} (ha : a ≠ 15) (hb : b ≠ 15) (hne : a ≠ b)
    (hregs : t.regs = ((s.setReg a v).setReg b w).regs) (hm : t.mode? = s.mode?) : t.reg a = v ∧ t.reg b = w := by
  have hmid : (s.setReg a v).mode? = s.mode? := State.mode?_congr (s.setRegIn_cpsr ..)
  refine ⟨?_, State.reg_of_setReg hb hregs (hm.trans hmid.symm)⟩
  rw [State.reg, hm, State.regIn_congr hregs _ ha, State.setReg_eq, hmid, State.regIn_setRegIn_ne _ _ _ _ _ hne.symm,
    State.setReg_eq]
  exact s.regIn_setRegIn_self _ _ _ ha

/-- Rd written, then the pc. -/
theorem State.setReg_advance {s : State} {rd : RegNum} {v : Word} {len : Nat} (hrd : rd ≠ 15)
    (hpc : s.pc.toNat + len < 2 ^ 32) :
    ∃ t, (s.setReg rd v).advance len = .ok t ∧ WritesReg (BitVec.ofNat 32 len) s rd v t :=
  have hw := s.written_setReg rd v (mask := 0) (by decide)
  ⟨_, hw.advance_eq hpc, State.reg_of_setReg hrd rfl (mode?_of_sameStatus hw.status (by decide)), hw.setPc_frame _⟩

/-- Rd written, then status bits above the mode field, then the pc. -/
theorem State.setReg_setCpsr_advance {s : State} {rd : RegNum} {v w mask : Word} {len : Nat} (hrd : rd ≠ 15)
    (hpc : s.pc.toNat + len < 2 ^ 32) (hw : w &&& ~~~mask = s.cpsr &&& ~~~mask)
    (hm : ∀ j < 5, mask.getLsbD j = false) :
    ∃ t, ((s.setReg rd v).setCpsr w).advance len = .ok t ∧ t.cpsr = w ∧ t.reg rd = v ∧
      Frame s t (s.pc + BitVec.ofNat 32 len) [rd] mask := by
  have hv := s.written_setReg rd v hm
  have hu := hv.setCpsr (hw.trans hv.status.symm)
  exact ⟨_, hu.advance_eq hpc, rfl, State.reg_of_setReg hrd rfl (mode?_of_sameStatus hu.status hm), hu.setPc_frame _⟩

/-! ## From an instruction to its stop and its effect -/

/-- A restriction that is broken stops; otherwise the instruction is its effect. -/
theorem yieldsUnless_of_exec {bad : Bool} {f : Fault} {i : Instr} {s : State} {body : Res State}
    {post : State → Prop} (hexec : exec i s = finish (unpredictableIf bad f >>= fun _ => body))
    (hok : bad = false → ∃ t, body = .ok t ∧ post t) : YieldsUnless bad f i s post := by
  unfold YieldsUnless
  cases bad with
  | true => exact hexec
  | false =>
    obtain ⟨t, rfl, hpost⟩ := hok rfl
    exact ⟨t, hexec, hpost⟩

/-! ## The flags of a result (R14, R222, R224, R399) -/

/-- A status register with N, Z and C written. -/
def flagsNZC (w : Word) (n z c : Bool) : Word := setBit (setBit (setBit w 31 n) 30 z) 29 c

/-- A status register with the four flags written. -/
def flagsNZCV (w : Word) (n z c v : Bool) : Word := setBit (flagsNZC w n z c) 28 v

theorem psrNZ_and_not {mask : Word} (w r : Word) (h31 : mask.getLsbD 31 = true) (h30 : mask.getLsbD 30 = true) :
    psrNZ w r &&& ~~~mask = w &&& ~~~mask := by
  rw [psrNZ, setBit_and_not _ _ (by decide) h30, setBit_and_not _ _ (by decide) h31]

section
variable (w : Word) (n z c v : Bool) {j : Nat} (hj : j < 32)

theorem flagsNZC_and_not : flagsNZC w n z c &&& ~~~maskNZC = w &&& ~~~maskNZC := by
  rw [flagsNZC, setBit_and_not _ _ (by decide) (by decide), setBit_and_not _ _ (by decide) (by decide),
    setBit_and_not _ _ (by decide) (by decide)]

theorem flagsNZCV_and_not : flagsNZCV w n z c v &&& ~~~maskNZCV = w &&& ~~~maskNZCV := by
  rw [flagsNZCV, flagsNZC, setBit_and_not _ _ (by decide) (by decide), setBit_and_not _ _ (by decide) (by decide),
    setBit_and_not _ _ (by decide) (by decide), setBit_and_not _ _ (by decide) (by decide)]

include hj

theorem flagsNZC_getLsbD : (flagsNZC w n z c).getLsbD j =
    if j = 29 then c else if j = 30 then z else if j = 31 then n else w.getLsbD j := by
  rw [flagsNZC, setBit_getLsbD _ _ _ _ (by decide) hj, setBit_getLsbD _ _ _ _ (by decide) hj,
    setBit_getLsbD _ _ _ _ (by decide) hj]

theorem flagsNZCV_getLsbD :
    (flagsNZCV w n z c v).getLsbD j = if j = 28 then v else (flagsNZC w n z c).getLsbD j :=
  setBit_getLsbD _ _ _ _ (by decide) hj

end

section
variable {t : State} {w : Word} {n z c v : Bool}

theorem flags_of_flagsNZC (h : t.cpsr = flagsNZC w n z c) : t.flagN = n ∧ t.flagZ = z ∧ t.flagC = c := by
  have hbit := fun {j : Nat} (hj : j < 32) => (congrArg (BitVec.getLsbD · j) h).trans (flagsNZC_getLsbD w n z c hj)
  exact ⟨hbit (by decide), hbit (by decide), hbit (by decide)⟩

theorem flags_of_flagsNZCV (h : t.cpsr = flagsNZCV w n z c v) :
    t.flagN = n ∧ t.flagZ = z ∧ t.flagC = c ∧ t.flagV = v := by
  have hbit := fun {j : Nat} (hj : j < 32) => (congrArg (BitVec.getLsbD · j) h).trans (flagsNZCV_getLsbD w n z c v hj)
  have hlow := fun {j : Nat} (hj : j < 32) => flagsNZC_getLsbD w n z c hj
  exact ⟨(hbit (by decide)).trans (hlow (by decide)), (hbit (by decide)).trans (hlow (by decide)),
    (hbit (by decide)).trans (hlow (by decide)), hbit (by decide)⟩

end

/-! ## Carry, borrow and overflow (R15) -/

theorem addWithCarry_carry (x y : Word) (c : Bool) :
    (addWithCarry x y c).2.1 = decide (2 ^ 32 ≤ x.toNat + y.toNat + c.toNat) := rfl

theorem addWithCarry_overflow (x y : Word) (c : Bool) :
    (addWithCarry x y c).2.2 = overflowed (addWithCarry x y c).1 (x.toInt + y.toInt + c.toNat) :=
  decide_eq_decide.mpr ne_comm

theorem addWithCarry_comm (x y : Word) (c : Bool) : addWithCarry x y c = addWithCarry y x c := by
  simp only [addWithCarry, Nat.add_comm x.toNat, Int.add_comm x.toInt]

theorem toInt_not (y : Word) : (~~~y).toInt = -y.toInt - 1 := by
  simp only [BitVec.toInt_eq_toNat_cond, BitVec.toNat_not]
  have := y.isLt
  split <;> split <;> omega

/-- The carry of `x + ~y + c` says that `x - y - !c` does not borrow. -/
theorem addWithCarry_not_carry (x y : Word) (c : Bool) : (addWithCarry x (~~~y) c).2.1 = noBorrow x y (!c) := by
  rw [addWithCarry_carry, noBorrow, BitVec.toNat_not]
  have := y.isLt
  refine decide_eq_decide.mpr ?_
  cases c <;> simp only [Bool.toNat_true, Bool.toNat_false, Bool.not_true, Bool.not_false] <;> omega

theorem addWithCarry_not_overflow (x y : Word) (c : Bool) :
    (addWithCarry x (~~~y) c).2.2 = overflowed (addWithCarry x (~~~y) c).1 (x.toInt - y.toInt - (!c).toNat) := by
  rw [addWithCarry_overflow, toInt_not]
  congr 1
  cases c <;> simp <;> omega

/-- What an addition with carry answers: the sum, its carry, its overflow. -/
def IsSum (r : Word × Bool × Bool) (sum : Word) (carry : Bool) (exact : Int) : Prop :=
  r.1 = sum ∧ r.2.1 = carry ∧ r.2.2 = overflowed sum exact

theorem isSum_add (a b : Word) : IsSum (addWithCarry a b false) (a + b) (decide (2 ^ 32 ≤ a.toNat + b.toNat))
    (a.toInt + b.toInt) := by
  have hsum : (addWithCarry a b false).1 = a + b := (addWithCarry_sum a b false).trans (BitVec.add_zero _)
  exact ⟨hsum, rfl, by rw [addWithCarry_overflow, hsum]; simp⟩

theorem isSum_adc (a b : Word) (c : Bool) : IsSum (addWithCarry a b c) (a + b + bitWord c)
    (decide (2 ^ 32 ≤ a.toNat + b.toNat + c.toNat)) (a.toInt + b.toInt + c.toNat) :=
  ⟨addWithCarry_sum a b c, rfl, by rw [addWithCarry_overflow, addWithCarry_sum]⟩

theorem isSum_sbc (a b : Word) (c : Bool) : IsSum (addWithCarry a (~~~b) c) (a - b - bitWord (!c)) (noBorrow a b (!c))
    (a.toInt - b.toInt - (!c).toNat) := by
  have hsum := (addWithCarry_sum a (~~~b) c).trans (add_not_add_bitWord a b c)
  exact ⟨hsum, addWithCarry_not_carry a b c, by rw [addWithCarry_not_overflow, hsum]⟩

theorem isSum_sub (a b : Word) :
    IsSum (addWithCarry a (~~~b) true) (a - b) (noBorrow a b false) (a.toInt - b.toInt) := by
  have h := isSum_sbc a b true
  have hsub : a - b - bitWord false = a - b := BitVec.sub_zero _
  simpa [hsub] using h

theorem isSum_rsc (a b : Word) (c : Bool) : IsSum (addWithCarry (~~~a) b c) (b - a - bitWord (!c)) (noBorrow b a (!c))
    (b.toInt - a.toInt - (!c).toNat) :=
  addWithCarry_comm b (~~~a) c ▸ isSum_sbc b a c

theorem isSum_rsb (a b : Word) :
    IsSum (addWithCarry (~~~a) b true) (b - a) (noBorrow b a false) (b.toInt - a.toInt) :=
  addWithCarry_comm b (~~~a) true ▸ isSum_sub b a

/-! ## A result to a register that is not pc (R221) -/

theorem checkRegisterShift_eq (op : Operand2) (regs : List RegNum) :
    checkRegisterShift op regs = unpredictableIf (shiftNamesPc op regs) .registerShiftPc := by cases op <;> rfl

/-- A result to Rd, and with S the status register that `psr` makes of the old one. -/
theorem dpYields_of_exec {i : Instr} {c : Cond} {s : State} {sf : Bool} {rd : RegNum} {op : Operand2}
    {regs : List RegNum} {mask r : Word} {psr : Word → Word} {flags : State → State} {post : State → Prop}
    (hs : s.Ready c 4) (hrd : rd ≠ 15) (hflags : ∀ t, flags t = t.setCpsr (psr t.cpsr))
    (hpsr : ∀ w, psr w &&& ~~~mask = w &&& ~~~mask) (hm : ∀ j < 5, mask.getLsbD j = false)
    (hexec : exec i s = finish (s.conditional c (checkRegisterShift op regs >>= fun _ => s.dpWrite rd sf r flags)))
    (hpost : ∀ t : State, t.cpsr = psr s.cpsr → t.flagN = r.msb ∧ t.flagZ = (r == 0) ∧ post t) :
    DpYields i s sf rd op regs mask r post := by
  obtain ⟨hc, hpc⟩ := hs
  rw [checkRegisterShift_eq] at hexec
  refine yieldsUnless_of_exec (exec_of_passed hc hexec) fun _ => ?_
  rw [State.dpWrite_reg _ _ _ hrd]
  cases sf with
  | false =>
    obtain ⟨t, ht, hreg, hframe⟩ := State.setReg_advance (v := r) hrd hpc
    exact ⟨t, ht, hreg, hframe, fun h => Bool.noConfusion h⟩
  | true =>
    obtain ⟨t, ht, hcpsr, hreg, hframe⟩ := State.setReg_setCpsr_advance (v := r) hrd hpc (hpsr s.cpsr) hm
    refine ⟨t, ?_, hreg, hframe, fun _ => hpost t hcpsr⟩
    rw [if_pos rfl, hflags, State.setReg_eq, s.setRegIn_cpsr, ← State.setReg_eq, ht]

section
variable {i : Instr} {c : Cond} {s : State} {sf : Bool} {rn rd : RegNum} {op : Operand2} {r : Word}

theorem logical_yields {regs : List RegNum} (hs : s.Ready c 4) (hrd : rd ≠ 15)
    (hexec : exec i s = finish (s.conditional c (checkRegisterShift op regs >>= fun _ =>
      s.dpWrite rd sf r fun t => t.setNZC r (s.operand2 op).2))) :
    DpYields i s sf rd op regs maskNZC r fun t => t.flagC = (s.operand2 op).2 :=
  dpYields_of_exec (psr := fun w => flagsNZC w r.msb (r == 0) (s.operand2 op).2) hs hrd (fun _ => rfl)
    (fun w => flagsNZC_and_not w _ _ _) (by decide) hexec fun _ h => flags_of_flagsNZC h

theorem arith_yields {f : Word → Word → Word × Bool × Bool} {carry : Bool} {exact : Int} (hs : s.Ready c 4)
    (hrd : rd ≠ 15) (hexec : exec i s = finish (s.conditional c (s.dpArith f sf rn rd op)))
    (hsum : IsSum (f (s.reg rn) (s.operand2 op).1) r carry exact) :
    DpYields i s sf rd op [rn, rd] maskNZCV r fun t => t.flagC = carry ∧ t.flagV = overflowed r exact := by
  obtain ⟨rfl, rfl, hv⟩ := hsum
  exact dpYields_of_exec (psr := fun w => flagsNZCV w _ _ _ _) hs hrd (fun _ => rfl)
    (fun w => flagsNZCV_and_not w _ _ _ _) (by decide) hexec fun _ h => hv ▸ flags_of_flagsNZCV h

/-- Settles O19: each operation is its word, written with N, Z and the shifter's carry. -/
theorem logicalOperationsYield : Obligations.LogicalOperationsYield := by
  intro c sf rn rd op s hs hrd
  and_intros <;> exact logical_yields hs hrd rfl

/-- Settles O20: each operation is an addition with carry of its operands or of their complements. -/
theorem arithmeticOperationsYield : Obligations.ArithmeticOperationsYield := by
  intro c sf rn rd op s hs hrd
  exact ⟨arith_yields hs hrd rfl (isSum_add ..), arith_yields hs hrd rfl (isSum_adc ..),
    arith_yields hs hrd rfl (isSum_sub ..), arith_yields hs hrd rfl (isSum_sbc ..),
    arith_yields hs hrd rfl (isSum_rsb ..), arith_yields hs hrd rfl (isSum_rsc ..)⟩

/-! ## Compares and tests (R226, R227, R236, R237) -/

theorem testYields_of_exec {mask w : Word} {post : State → Prop} (hs : s.Ready c 4)
    (hw : w &&& ~~~mask = s.cpsr &&& ~~~mask)
    (hexec : exec i s = finish (s.conditional c (checkRegisterShift op [rn] >>= fun _ => (s.setCpsr w).advance 4)))
    (hpost : ∀ t : State, t.cpsr = w → t.flagN = r.msb ∧ t.flagZ = (r == 0) ∧ post t) :
    TestYields i s op rn mask r post := by
  obtain ⟨hc, hpc⟩ := hs
  rw [checkRegisterShift_eq] at hexec
  refine yieldsUnless_of_exec (exec_of_passed hc hexec) fun _ => ⟨_, State.advance_eq hpc, ?_, hpost _ rfl⟩
  exact ⟨rfl, fun _ _ => rfl, hw, ((SameSystem.refl s).setCpsr w).setPc _, .of_mem_eq rfl⟩

theorem test_yields (hs : s.Ready c 4)
    (hexec : exec i s = finish (s.conditional c (checkRegisterShift op [rn] >>= fun _ =>
      (s.setNZC r (s.operand2 op).2).advance 4))) :
    TestYields i s op rn maskNZC r fun t => t.flagC = (s.operand2 op).2 :=
  testYields_of_exec hs (flagsNZC_and_not ..) hexec fun _ h => flags_of_flagsNZC h

theorem compare_yields {f : Word → Word → Word × Bool × Bool} {carry : Bool} {exact : Int} (hs : s.Ready c 4)
    (hexec : exec i s = finish (s.conditional c (s.dpCompare f rn op)))
    (hsum : IsSum (f (s.reg rn) (s.operand2 op).1) r carry exact) :
    TestYields i s op rn maskNZCV r fun t => t.flagC = carry ∧ t.flagV = overflowed r exact := by
  obtain ⟨rfl, rfl, hv⟩ := hsum
  exact testYields_of_exec hs (flagsNZCV_and_not ..) hexec fun _ h => hv ▸ flags_of_flagsNZCV h

end

/-- Settles O21: the flags of the sum or of the word, and no register. -/
theorem comparesWriteOnlyFlags : Obligations.ComparesWriteOnlyFlags := fun _ _ _ _ hs =>
  ⟨compare_yields hs rfl (isSum_sub ..), compare_yields hs rfl (isSum_add ..), test_yields hs rfl, test_yields hs rfl⟩

/-! ## CLZ (R238) -/

theorem leadingZeros_le (v : Word) (n : Nat) : leadingZeros v n ≤ n := by
  induction n with
  | zero => exact le_rfl
  | succ n ih => rw [leadingZeros]; split <;> omega

/-- Where the bits from `n` up are 0, the count says where the value lies. -/
theorem leadingZeros_bounds {v : Word} {n : Nat} (h : v.toNat < 2 ^ n) : v.toNat < 2 ^ (n - leadingZeros v n) ∧
    (leadingZeros v n < n → 2 ^ (n - 1 - leadingZeros v n) ≤ v.toNat) := by
  induction n with
  | zero => exact ⟨h, fun h => absurd h (Nat.not_lt_zero _)⟩
  | succ n ih =>
    rw [leadingZeros]
    split
    next hb => exact ⟨h, fun _ => Nat.ge_two_pow_of_testBit hb⟩
    next hb =>
      have hlt : v.toNat < 2 ^ n := by
        by_contra hge
        exact hb (Nat.testBit_of_two_pow_le_and_two_pow_add_one_gt (not_lt.mp hge) h)
      obtain ⟨hhi, hlo⟩ := ih hlt
      have hle := leadingZeros_le v n
      refine ⟨by rwa [show n + 1 - (leadingZeros v n + 1) = n - leadingZeros v n by omega], fun hn => ?_⟩
      rw [show n + 1 - 1 - (leadingZeros v n + 1) = n - 1 - leadingZeros v n by omega]
      exact hlo (by omega)

/-- Settles O23: the count of the zeros above the highest one, by induction on the bits looked at. -/
theorem clzCountsLeadingZeros : Obligations.ClzCountsLeadingZeros := by
  intro c rd rm s ⟨hc, hpc⟩
  refine yieldsUnless_of_exec (exec_of_passed hc rfl) fun hbad => ?_
  obtain ⟨hrd, -⟩ : rd ≠ 15 ∧ rm ≠ 15 := by simpa using hbad
  obtain ⟨t, ht, hreg, hframe⟩ := State.setReg_advance (v := BitVec.ofNat 32 (leadingZeros (s.reg rm) 32)) hrd hpc
  refine ⟨t, ht, ?_⟩
  rw [hreg]
  obtain ⟨hhi, hlo⟩ := leadingZeros_bounds (s.reg rm).isLt
  have hle := leadingZeros_le (s.reg rm) 32
  have hnat : (BitVec.ofNat 32 (leadingZeros (s.reg rm) 32)).toNat = leadingZeros (s.reg rm) 32 :=
    (BitVec.toNat_ofNat ..).trans (Nat.mod_eq_of_lt (by omega))
  refine ⟨fun h0 => ?_, fun h0 => ?_, hframe⟩
  · rw [h0]; decide
  · have hlt : leadingZeros (s.reg rm) 32 < 32 := by
      by_contra hge
      have hall : leadingZeros (s.reg rm) 32 = 32 := by omega
      rw [hall] at hhi
      exact h0 (BitVec.eq_of_toNat_eq (by simpa using hhi))
    rw [hnat]
    exact ⟨hlt, hlo hlt, hhi⟩

end Sys2Proof.Machine
end

section
/-! Proofs. The multiplies: O24 to O28. -/

namespace Sys2Proof.Machine

set_option Elab.async false

/-! ## From a multiply to its effect (R391) -/

theorem mulYields_of_exec {regs : List RegNum} {overlap : Bool} {c : Cond} {i : Instr} {s : State} {body : Res State}
    {post : State → Prop} (hc : s.passed c = true)
    (hexec : exec i s = finish (s.conditional c (checkMul regs overlap >>= fun _ => body)))
    (hok : 15 ∉ regs → overlap = false → ∃ t, body = .ok t ∧ post t) : MulYields regs overlap i s post := by
  have hexec := exec_of_passed hc hexec
  unfold MulYields
  by_cases h15 : 15 ∈ regs
  · rw [if_pos h15, hexec, checkMul, List.contains_eq_mem, decide_eq_true h15]; rfl
  · rw [checkMul, List.contains_eq_mem, decide_eq_false h15] at hexec
    rw [if_neg h15]
    cases overlap with
    | true => exact hexec
    | false =>
      obtain ⟨t, rfl, hpost⟩ := hok h15 rfl
      exact ⟨t, hexec, hpost⟩

section
variable {c : Cond} {i : Instr} {s : State} {rd rdHi rdLo rn rs rm : RegNum} {regs : List RegNum} {overlap : Bool}
  (hs : s.Ready c 4)
include hs

/-! ## One word (R392, R393, R399) -/

theorem mul_yields {sf : Bool} {v r : Word} (hrd : rd ∈ regs) (hv : v = r)
    (hexec : exec i s = finish (s.conditional c (checkMul regs overlap >>= fun _ => (s.writeMul sf rd v).advance 4))) :
    MulYields regs overlap i s fun t => t.reg rd = r ∧ Frame s t (s.pc + 4) [rd] (if sf then maskNZC else 0) ∧
      (sf = true → t.flagN = r.msb ∧ t.flagZ = (r == 0)) := by
  subst hv
  obtain ⟨hc, hpc⟩ := hs
  refine mulYields_of_exec hc hexec fun h15 _ => ?_
  have hrd : rd ≠ 15 := fun e => h15 (e ▸ hrd)
  cases sf with
  | false =>
    obtain ⟨t, ht, hreg, hframe⟩ := State.setReg_advance (v := v) hrd hpc
    exact ⟨t, ht, hreg, hframe, fun h => Bool.noConfusion h⟩
  | true =>
    have hm : ∀ j < 5, maskNZC.getLsbD j = false := by decide
    have hu : Written s (s.writeMul true rd v) [rd] maskNZC :=
      (s.written_setReg rd v hm).drawBit.setCpsr (flagsNZC_and_not ..)
    refine ⟨_, hu.advance_eq hpc, State.reg_of_setReg hrd rfl (mode?_of_sameStatus hu.status hm), hu.setPc_frame _,
      fun _ => ?_⟩
    obtain ⟨hn, hz, -⟩ := flags_of_flagsNZC (t := (s.writeMul true rd v).setPc (s.pc + 4)) (w := (s.setReg rd v).cpsr)
      (n := v.msb) (z := v == 0) (c := s.drawBit.1) rfl
    exact ⟨hn, hz⟩

end

theorem ofInt_umul (s : State) (rm rs : RegNum) : BitVec.ofInt 32 (s.umul rm rs) = s.reg rm * s.reg rs := by
  rw [State.umul, BitVec.ofInt_natCast, BitVec.ofNat_mul, BitVec.ofNat_toNat, BitVec.ofNat_toNat, BitVec.setWidth_eq,
    BitVec.setWidth_eq]

/-- Settles O24: the product and the sum, modulo 2^32. -/
theorem multipliesYieldTheLowWord : Obligations.MultipliesYieldTheLowWord := by
  intro c sf rd rn rs rm s hs
  refine ⟨mul_yields hs (by simp) (ofInt_umul s rm rs) rfl, mul_yields hs (by simp) ?_ rfl⟩
  rw [BitVec.ofInt_add, ofInt_umul, BitVec.ofInt_natCast, BitVec.ofNat_toNat, BitVec.setWidth_eq]

/-! ## Two words (R394 to R399) -/

section
variable {s u t : State} {rdHi rdLo : RegNum} {mask : Word} (r : BitVec 64)

theorem Written.writePair (h : Written s u [rdHi, rdLo] mask) (hm : ∀ j < 5, mask.getLsbD j = false) :
    Written s (u.writePair rdHi rdLo r) [rdHi, rdLo] mask :=
  (h.setReg hm (by simp) _).setReg hm (by simp) _

theorem State.pair_of_writePair {r : BitVec 64} (hHi : rdHi ≠ 15) (hLo : rdLo ≠ 15) (hne : rdHi ≠ rdLo)
    (hregs : t.regs = (s.writePair rdHi rdLo r).regs) (hm : t.mode? = s.mode?) : t.pair rdHi rdLo = r := by
  obtain ⟨hlo, hhi⟩ := State.reg_of_setReg_setReg hLo hHi hne.symm hregs hm
  rw [State.pair, hhi, hlo]
  exact extract_append_extract (v := 32) (m := 32) r

end

section
variable {c : Cond} {i : Instr} {s : State} {rd rdHi rdLo rn rs rm : RegNum} {regs : List RegNum} {overlap : Bool}
  (hs : s.Ready c 4)
include hs

/-- A pair written, no flag. -/
theorem pair_yields {r : BitVec 64} {post : State → Prop} (hHi : rdHi ∈ regs) (hLo : rdLo ∈ regs)
    (hne : overlap = false → rdHi ≠ rdLo)
    (hexec : exec i s = finish (s.conditional c (checkMul regs overlap >>= fun _ =>
      (s.writePair rdHi rdLo r).advance 4)))
    (hpost : ∀ t : State, t.pair rdHi rdLo = r → Frame s t (s.pc + 4) [rdHi, rdLo] 0 → post t) :
    MulYields regs overlap i s post := by
  obtain ⟨hc, hpc⟩ := hs
  refine mulYields_of_exec hc hexec fun h15 hov => ?_
  have hHi : rdHi ≠ 15 := fun e => h15 (e ▸ hHi)
  have hLo : rdLo ≠ 15 := fun e => h15 (e ▸ hLo)
  have hm : ∀ j < 5, (0 : Word).getLsbD j = false := by decide
  have hu := (Written.refl s [rdHi, rdLo] 0).writePair r hm
  exact ⟨_, hu.advance_eq hpc, hpost _ (State.pair_of_writePair hHi hLo (hne hov) rfl
    (mode?_of_sameStatus hu.status hm)) (hu.setPc_frame _)⟩

theorem writesLong_yields {exact exact' : Int} (hHi : rdHi ∈ regs) (hLo : rdLo ∈ regs)
    (hne : overlap = false → rdHi ≠ rdLo) (heq : exact' = exact)
    (hexec : exec i s = finish (s.conditional c (checkMul regs overlap >>= fun _ =>
      (s.writePair rdHi rdLo (BitVec.ofInt 64 exact')).advance 4))) :
    MulYields regs overlap i s (WritesLong s rdHi rdLo exact) :=
  pair_yields hs hHi hLo hne hexec fun _ hpair hframe => ⟨heq ▸ hpair, hframe⟩

omit hs in
theorem State.writeLong_true (s : State) (r : BitVec 64) : s.writeLong true rdHi rdLo r =
    (s.writePair rdHi rdLo r).drawBit.2.drawBit.2.setCpsr
      (flagsNZCV (s.writePair rdHi rdLo r).cpsr r.msb (r == 0) s.drawBit.1 s.drawBit.2.drawBit.1) := rfl

/-- A pair written, with S its flags. -/
theorem long_yields {sf : Bool} {v r : BitVec 64} (hv : v = r)
    (hexec : exec i s = finish (s.conditional c (checkLong rdHi rdLo rs rm >>= fun _ =>
      (s.writeLong sf rdHi rdLo v).advance 4))) :
    MulYields [rdHi, rdLo, rs, rm] (rdHi == rdLo || rm == rdHi || rm == rdLo) i s fun t =>
      t.pair rdHi rdLo = r ∧ Frame s t (s.pc + 4) [rdHi, rdLo] (if sf then maskNZCV else 0) ∧
      (sf = true → t.flagN = r.msb ∧ t.flagZ = (r == 0)) := by
  subst hv
  have hne : (rdHi == rdLo || rm == rdHi || rm == rdLo) = false → rdHi ≠ rdLo := fun h e => by simp [e] at h
  cases sf with
  | false =>
    exact pair_yields hs (by simp) (by simp) hne hexec fun t hpair hframe =>
      ⟨hpair, hframe, fun h => Bool.noConfusion h⟩
  | true =>
    obtain ⟨hc, hpc⟩ := hs
    refine mulYields_of_exec hc hexec fun h15 hov => ?_
    simp only [List.mem_cons, not_or] at h15
    obtain ⟨hHi, hLo, -⟩ := h15
    have hm : ∀ j < 5, maskNZCV.getLsbD j = false := by decide
    have hp := (Written.refl s [rdHi, rdLo] maskNZCV).writePair v hm
    have hu := hp.drawBit.drawBit.setCpsr
      (flagsNZCV_and_not (s.writePair rdHi rdLo v).cpsr v.msb (v == 0) s.drawBit.1 s.drawBit.2.drawBit.1)
    rw [State.writeLong_true]
    refine ⟨_, hu.advance_eq hpc, State.pair_of_writePair (Ne.symm hHi) (Ne.symm hLo) (hne hov)
      (State.setPc_regs ..) (mode?_of_sameStatus hu.status hm), hu.setPc_frame _, fun _ => ?_⟩
    obtain ⟨hn, hz, -⟩ := flags_of_flagsNZCV (State.setCpsr_cpsr (s.writePair rdHi rdLo v).drawBit.2.drawBit.2
      (flagsNZCV _ v.msb (v == 0) s.drawBit.1 s.drawBit.2.drawBit.1))
    exact ⟨hn, hz⟩

end

theorem ofInt_umul_long (s : State) (rm rs : RegNum) :
    BitVec.ofInt 64 (s.umul rm rs) = (s.reg rm).setWidth 64 * (s.reg rs).setWidth 64 := by
  rw [State.umul, BitVec.ofInt_natCast, BitVec.ofNat_mul, BitVec.ofNat_toNat, BitVec.ofNat_toNat]

theorem ofInt_smul_long (s : State) (rm rs : RegNum) :
    BitVec.ofInt 64 (s.smul rm rs) = (s.reg rm).signExtend 64 * (s.reg rs).signExtend 64 :=
  BitVec.ofInt_mul ..

theorem accumulator_eq (s : State) (rdHi rdLo : RegNum) : s.accumulator rdHi rdLo = (s.pair rdHi rdLo).toNat := rfl

theorem ofInt_accumulator (s : State) (rdHi rdLo : RegNum) (v : Int) :
    BitVec.ofInt 64 (s.accumulator rdHi rdLo + v) = s.pair rdHi rdLo + BitVec.ofInt 64 v := by
  rw [BitVec.ofInt_add, accumulator_eq, BitVec.ofInt_natCast, BitVec.ofNat_toNat, BitVec.setWidth_eq]

/-- The sum of a product and two words fits 64 bits (R398). -/
theorem umaal_toNat (x y a b : Word) :
    (BitVec.ofInt 64 (((x.toNat * y.toNat : Nat) : Int) + a.toNat + b.toNat)).toNat =
      x.toNat * y.toNat + a.toNat + b.toNat := by
  have hprod : x.toNat * y.toNat ≤ (2 ^ 32 - 1) * (2 ^ 32 - 1) :=
    Nat.mul_le_mul (Nat.le_sub_one_of_lt x.isLt) (Nat.le_sub_one_of_lt y.isLt)
  rw [← Int.natCast_add, ← Int.natCast_add, BitVec.ofInt_natCast, BitVec.toNat_ofNat]
  exact Nat.mod_eq_of_lt (by have := a.isLt; have := b.isLt; omega)

/-- Settles O25: the products of 64 bits, and what they are added to. -/
theorem longMultipliesYieldThePair : Obligations.LongMultipliesYieldThePair := by
  intro c sf rdHi rdLo rs rm s hs
  refine ⟨long_yields hs (ofInt_umul_long ..) rfl, long_yields hs (ofInt_smul_long ..) rfl, long_yields hs ?umlal rfl,
    long_yields hs ?smlal rfl, pair_yields hs (by simp) (by simp) (fun h e => by simp [e] at h) rfl ?umaal⟩
  case umlal => rw [ofInt_accumulator, ofInt_umul_long]
  case smlal => rw [ofInt_accumulator, ofInt_smul_long]
  case umaal => exact fun t hpair hframe => ⟨hpair ▸ umaal_toNat .., hframe⟩

/-! ## Products of halves (R390, R400 to R410) -/

section
variable {c : Cond} {i : Instr} {s : State} {rd rdHi rdLo rn rs rm : RegNum} {regs : List RegNum} {overlap : Bool}
  (hs : s.Ready c 4)
include hs

/-- Rd written, no flag. -/
theorem word_yields {r : Word} {post : State → Prop} (hrd : rd ∈ regs)
    (hexec : exec i s = finish (s.conditional c (checkMul regs false >>= fun _ => (s.setReg rd r).advance 4)))
    (hpost : ∀ t : State, t.reg rd = r → Frame s t (s.pc + 4) [rd] 0 → post t) : MulYields regs false i s post := by
  obtain ⟨hc, hpc⟩ := hs
  refine mulYields_of_exec hc hexec fun h15 _ => ?_
  obtain ⟨t, ht, hreg, hframe⟩ := State.setReg_advance (v := r) (fun e => h15 (e ▸ hrd)) hpc
  exact ⟨t, ht, hpost t hreg hframe⟩

/-- A product or difference that fits is written exactly. -/
theorem exact_yields {exact exact' : Int} (hrd : rd ∈ regs) (heq : exact' = exact)
    (hfits : (BitVec.ofInt 32 exact).toInt = exact)
    (hexec : exec i s = finish (s.conditional c (checkMul regs false >>= fun _ =>
      (s.setReg rd (BitVec.ofInt 32 exact')).advance 4))) :
    MulYields regs false i s fun t => (t.reg rd).toInt = exact ∧ Frame s t (s.pc + 4) [rd] 0 :=
  word_yields hs hrd hexec fun _ hreg hframe => ⟨hreg ▸ heq ▸ hfits, hframe⟩

end

/-- Q set where the condition holds, never cleared, and no other bit written (R52). -/
theorem orQ_and_not (w : Word) (b : Bool) : (if b then setBit w 27 true else w) &&& ~~~maskQ = w &&& ~~~maskQ := by
  cases b with
  | false => rfl
  | true => exact setBit_and_not w true (by decide) (by decide)

theorem flagQ_of_orQ {s t : State} {b : Bool} (h : t.cpsr = if b then setBit s.cpsr 27 true else s.cpsr) :
    t.flagQ = (s.flagQ || b) := by
  rw [State.flagQ, h]
  cases b with
  | false => exact (Bool.or_false _).symm
  | true => rw [if_pos rfl, setBit_getLsbD _ _ _ _ (by decide) (by decide), Bool.or_true]; rfl

/-- A word to Rd, Q set where `b` holds. -/
theorem State.setReg_orQ_advance {s : State} {rd : RegNum} {v : Word} {b : Bool} {len : Nat} (hrd : rd ≠ 15)
    (hpc : s.pc.toNat + len < 2 ^ 32) :
    ∃ t, ((s.setReg rd v).orQ b).advance len = .ok t ∧ t.reg rd = v ∧ t.flagQ = (s.flagQ || b) ∧
      Frame s t (s.pc + BitVec.ofNat 32 len) [rd] maskQ := by
  obtain ⟨t, ht, hcpsr, hreg, hframe⟩ :=
    State.setReg_setCpsr_advance (v := v) hrd hpc (orQ_and_not s.cpsr b) (by decide)
  refine ⟨t, ?_, hreg, flagQ_of_orQ hcpsr, hframe⟩
  rw [State.orQ_eq, State.setReg_eq, s.setRegIn_cpsr, ← State.setReg_eq, ht]

theorem wraps_yields {c : Cond} {i : Instr} {s : State} {rd : RegNum} {regs : List RegNum} {exact exact' : Int}
    (hs : s.Ready c 4) (hrd : rd ∈ regs) (heq : exact' = exact)
    (hexec : exec i s = finish (s.conditional c (checkMul regs false >>= fun _ => (s.writeQ32 rd exact').advance 4))) :
    MulYields regs false i s (WrapsSettingQ s rd exact) := by
  subst heq
  obtain ⟨hc, hpc⟩ := hs
  refine mulYields_of_exec hc hexec fun h15 _ => ?_
  obtain ⟨t, ht, hreg, hq, hframe⟩ := State.setReg_orQ_advance (v := BitVec.ofInt 32 exact')
    (b := decide ((BitVec.ofInt 32 exact').toInt ≠ exact')) (fun e => h15 (e ▸ hrd)) hpc
  exact ⟨t, ht, hreg, hreg ▸ hq, hframe⟩

theorem half_eq (v : Word) (top : Bool) : half v top = halfOf v top := by cases top <;> rfl

/-- A half is a signed number of 16 bits. -/
theorem halfOf_bounds (v : Word) (top : Bool) : -2 ^ 15 ≤ halfOf v top ∧ halfOf v top < 2 ^ 15 := by
  cases top <;> exact ⟨BitVec.le_toInt .., BitVec.toInt_lt ..⟩

theorem halfMul_eq (s : State) (rm rs : RegNum) (x y : Bool) :
    s.halfMul rm rs x y = halfOf (s.reg rm) x * halfOf (s.reg rs) y := by
  rw [State.halfMul, half_eq, half_eq]

theorem wideMul_eq (s : State) (rm rs : RegNum) (y : Bool) :
    s.wideMul rm rs y = (s.reg rm).toInt * halfOf (s.reg rs) y / 2 ^ 16 := by
  rw [State.wideMul, half_eq]; norm_num

/-- The product of two signed numbers, the second of 16 bits; its least value is short of `-n * 2 ^ 15`. -/
theorem mul_bounds {n x y : Int} (hn : 2 ^ 15 ≤ n) (hx : -n ≤ x ∧ x < n) (hy : -2 ^ 15 ≤ y ∧ y < 2 ^ 15) :
    -n * 2 ^ 15 + 2 ^ 15 ≤ x * y ∧ x * y ≤ n * 2 ^ 15 := by
  obtain ⟨hx1, hx2⟩ := hx
  obtain ⟨hy1, hy2⟩ := hy
  rcases le_or_gt 0 y with hy0 | hy0 <;> constructor <;> nlinarith

theorem toInt_ofInt_of_fits {z : Int} (hlo : -2 ^ 31 ≤ z) (hhi : z < 2 ^ 31) : (BitVec.ofInt 32 z).toInt = z :=
  BitVec.toInt_ofInt_eq_self (by decide) hlo hhi

/-- Settles O26: the products of halves, which fit; their sums, which wrap. -/
theorem halfwordMultipliesYield : Obligations.HalfwordMultipliesYield := by
  intro c rd rn rs rm x y s hs
  have hprod := mul_bounds le_rfl (halfOf_bounds (s.reg rm) x) (halfOf_bounds (s.reg rs) y)
  have hwide := mul_bounds (n := 2 ^ 31) (by decide) ⟨BitVec.le_toInt (s.reg rm), BitVec.toInt_lt⟩ (halfOf_bounds (s.reg rs) y)
  refine ⟨wraps_yields hs (by simp) ?_ rfl, wraps_yields hs (by simp) ?_ rfl,
    exact_yields hs (by simp) (halfMul_eq ..) (toInt_ofInt_of_fits (by omega) (by omega)) rfl,
    exact_yields hs (by simp) (wideMul_eq ..) (toInt_ofInt_of_fits (by omega) (by omega)) rfl,
    writesLong_yields hs (by simp) (by simp) (fun h e => by simp [e] at h) ?_ rfl⟩
  · rw [halfMul_eq]
  · rw [wideMul_eq]
  · rw [halfMul_eq, accumulator_eq]

theorem rotRs_eq (s : State) (x : Bool) (rs : RegNum) : s.rotRs x rs = swapIf x (s.reg rs) := by
  cases x with
  | false => rw [State.rotRs, swapIf, if_neg Bool.false_ne_true, if_neg Bool.false_ne_true]
  | true =>
    refine BitVec.eq_of_getLsbD_eq fun j hj => ?_
    simp only [State.rotRs, swapIf, if_true, BitVec.getLsbD_rotateRight, BitVec.getLsbD_append,
      BitVec.getLsbD_extractLsb']
    by_cases h : j < 16
    · simp [h]
    · simp [h, show j - 16 < 16 by omega, hj]

theorem dualMul_eq (s : State) (x : Bool) (rm rs : RegNum) : s.dualMul x rm rs =
    (halfOf (s.reg rm) false * halfOf (swapIf x (s.reg rs)) false,
      halfOf (s.reg rm) true * halfOf (swapIf x (s.reg rs)) true) := by
  simp only [State.dualMul, rotRs_eq, half_eq]

/-- Settles O27: the two products of halves, their sums and differences. -/
theorem dualMultipliesYield : Obligations.DualMultipliesYield := by
  intro c rd rn rs rm x s hs
  have hlow := mul_bounds le_rfl (halfOf_bounds (s.reg rm) false) (halfOf_bounds (swapIf x (s.reg rs)) false)
  have hhigh := mul_bounds le_rfl (halfOf_bounds (s.reg rm) true) (halfOf_bounds (swapIf x (s.reg rs)) true)
  have hdual := dualMul_eq s x rm rs
  refine ⟨wraps_yields hs (by simp) ?_ rfl, wraps_yields hs (by simp) ?_ rfl, wraps_yields hs (by simp) ?_ rfl,
    exact_yields hs (by simp) ?_ (toInt_ofInt_of_fits (by omega) (by omega)) rfl,
    writesLong_yields hs (by simp) (by simp) (fun h e => by simp [e] at h) ?_ rfl,
    writesLong_yields hs (by simp) (by simp) (fun h e => by simp [e] at h) ?_ rfl⟩ <;>
  simp only [hdual, accumulator_eq]

/-! ## The most significant word (R411 to R413) -/

/-- The top word of 64 bits is the quotient by 2^32, rounding down. -/
theorem extractLsb'_ofInt (z : Int) : (BitVec.ofInt 64 z).extractLsb' 32 32 = BitVec.ofInt 32 (z / 2 ^ 32) := by
  refine BitVec.eq_of_toNat_eq ?_
  rw [BitVec.extractLsb'_toNat, BitVec.toNat_ofInt, BitVec.toNat_ofInt, Nat.shiftRight_eq_div_pow]
  omega

/-- The two readings of a word differ by 2^32, so that 2^32 times one and the other have the same top word. -/
theorem ofInt_div_of_unsigned (v : Word) (z : Int) : BitVec.ofInt 32 (((v.toNat : Int) * 2 ^ 32 + z) / 2 ^ 32) =
    BitVec.ofInt 32 ((v.toInt * 2 ^ 32 + z) / 2 ^ 32) := by
  refine BitVec.eq_of_toNat_eq ?_
  rw [BitVec.toNat_ofInt, BitVec.toNat_ofInt, BitVec.toInt_eq_toNat_cond]
  split <;> omega

theorem topWord_eq (z : Int) (r : Bool) : topWord z r = BitVec.ofInt 32 ((z + if r then 2 ^ 31 else 0) / 2 ^ 32) := by
  rw [topWord, extractLsb'_ofInt]; norm_num

theorem topWord_unsigned (v : Word) (z : Int) (r : Bool) : topWord ((v.toNat : Int) * 4294967296 + z) r =
    BitVec.ofInt 32 ((v.toInt * 2 ^ 32 + z + if r then 2 ^ 31 else 0) / 2 ^ 32) := by
  rw [topWord_eq, add_assoc, add_assoc]
  exact ofInt_div_of_unsigned ..

theorem smul_eq (s : State) (rm rs : RegNum) : s.smul rm rs = (s.reg rm).toInt * (s.reg rs).toInt := rfl

/-- Settles O28: the top word of the exact sum. -/
theorem mostSignificantWordMultipliesYield : Obligations.MostSignificantWordMultipliesYield := by
  intro c rd rn rs rm r s hs
  refine ⟨word_yields hs (by simp) rfl fun t hreg hframe => ⟨hreg.trans ?mul, hframe⟩,
    word_yields hs (by simp) rfl fun t hreg hframe => ⟨hreg.trans ?mla, hframe⟩,
    word_yields hs (by simp) rfl fun t hreg hframe => ⟨hreg.trans ?mls, hframe⟩⟩
  case mul => rw [topWord_eq, smul_eq]
  case mla => rw [topWord_unsigned, smul_eq]
  case mls => rw [sub_eq_add_neg, topWord_unsigned, ← sub_eq_add_neg, smul_eq]

end Sys2Proof.Machine
end

section
/-! Proofs. Saturation, extension, selection and packing: O29, O32 to O35. -/

namespace Sys2Proof.Machine

set_option Elab.async false

/-! ## From a media instruction to the register that it writes (R440) -/

section
variable {c : Cond} {i : Instr} {s : State} {rd : RegNum} {regs : List RegNum} {v r : Word} (hs : s.Ready c 4)
  (hrd : rd ∈ regs) (hv : v = r)
include hs hrd hv

/-- Rd written, no flag. -/
theorem mediaWord_yields
    (hexec : exec i s = finish (s.conditional c (checkMedia regs >>= fun _ => (s.setReg rd v).advance 4))) :
    MediaYields regs i s (WritesReg 4 s rd r) := by
  subst hv
  obtain ⟨hc, hpc⟩ := hs
  refine mediaYields_of_exec (exec_of_passed hc hexec) fun h15 => ?_
  exact State.setReg_advance (fun e => h15 (e ▸ hrd)) hpc

/-- Rd written, Q set where the condition holds. -/
theorem mediaQ_yields {q b : Bool} (hq : q = b)
    (hexec : exec i s = finish (s.conditional c (checkMedia regs >>= fun _ => ((s.setReg rd v).orQ q).advance 4))) :
    MediaYields regs i s (WritesSat s rd r b) := by
  subst hv hq
  obtain ⟨hc, hpc⟩ := hs
  refine mediaYields_of_exec (exec_of_passed hc hexec) fun h15 => ?_
  exact State.setReg_orQ_advance (fun e => h15 (e ▸ hrd)) hpc

end

/-! ## Saturation (R20) -/

theorem min_max_eq_clamp {lo hi : Int} (h : lo ≤ hi) (x : Int) : min (max x lo) hi = clamp lo hi x := by
  unfold clamp
  split
  · omega
  · split <;> omega

theorem decide_clamp_ne (lo hi x : Int) :
    decide (clamp lo hi x ≠ x) = (decide (x < lo) || decide (hi < x)) := by
  rw [← Bool.decide_or, decide_eq_decide]
  unfold clamp
  split
  · omega
  · split <;> omega

theorem leastOf_le_greatestOf (signed : Bool) (n : Nat) : leastOf signed n ≤ greatestOf signed n := by
  have hpos : ∀ k : Nat, (0 : Int) < 2 ^ k := fun _ => by positivity
  have hs := hpos (n - 1)
  have hu := hpos n
  cases signed with
  | true => simp only [leastOf, greatestOf, if_true]; omega
  | false => simp only [leastOf, greatestOf, Bool.false_eq_true, if_false]; omega

theorem signedSat_eq (x : Int) (n : Nat) :
    signedSat x n = (clamp (leastOf true n) (greatestOf true n) x, saturates true n x) := by
  have hle := leastOf_le_greatestOf true n
  have hv : min (max x (-(2 ^ (n - 1) : Int))) (2 ^ (n - 1) - 1) = clamp (leastOf true n) (greatestOf true n) x :=
    min_max_eq_clamp hle x
  rw [signedSat, hv, decide_clamp_ne, saturates]

theorem unsignedSat_eq (x : Int) (n : Nat) :
    unsignedSat x n = (clamp (leastOf false n) (greatestOf false n) x, saturates false n x) := by
  have hle := leastOf_le_greatestOf false n
  have hv : min (max x 0) (2 ^ n - 1) = clamp (leastOf false n) (greatestOf false n) x := min_max_eq_clamp hle x
  rw [unsignedSat, hv, decide_clamp_ne, saturates]

/-! ## The lanes of the Q and UQ forms (R446, R452, R453) -/

theorem laneSat_eq (signed : Bool) (l : Lane) : laneSat signed l =
    (clamp (leastOf signed l.width) (greatestOf signed l.width) l.value, saturates signed l.width l.value) := by
  cases signed with
  | true => exact signedSat_eq ..
  | false => exact unsignedSat_eq ..

theorem packLanes_sat (op : LaneOp) (signed : Bool) (a b : Word) :
    packLanes (fun l => (laneSat signed l).1) (lanesOf op signed a b) =
      laneWord op (fun w sub x y => satTo signed w w (exactLane signed w sub x y)) a b :=
  packLanes_lanesOf (fun _ _ _ _ _ => by rw [laneSat_eq]; rfl) op a b

/-- Two halves have a bit set where one of them has. -/
theorem halfBits_ne_zero (x y : Bool) :
    (x || (y || false)) =
      ((BitVec.ofBool x ++ BitVec.ofBool x ++ BitVec.ofBool y ++ BitVec.ofBool y : BitVec 4) != 0) := by
  revert x y; decide

/-- Four bytes have a bit set where one of them has. -/
theorem byteBits_ne_zero (x3 x2 x1 x0 : Bool) : (x3 || (x2 || (x1 || (x0 || false)))) =
    ((BitVec.ofBool x3 ++ BitVec.ofBool x2 ++ BitVec.ofBool x1 ++ BitVec.ofBool x0 : BitVec 4) != 0) := by
  revert x3 x2 x1 x0; decide

theorem any_lanesOf (op : LaneOp) (signed : Bool) (a b : Word) :
    ((lanesOf op signed a b).any fun l => (laneSat signed l).2) =
      (laneBits op (fun w sub x y => saturates signed w (exactLane signed w sub x y)) a b != 0) := by
  cases op with
  | add16 | addsubx | subaddx | sub16 =>
    simp only [lanesOf, laneAt_eq, laneSat_eq, List.any_cons, List.any_nil]
    exact halfBits_ne_zero ..
  | add8 | sub8 =>
    simp only [lanesOf, laneAt_eq, laneSat_eq, List.any_cons, List.any_nil]
    exact byteBits_ne_zero ..

theorem satLanes_of_exec {op : LaneOp} {signed : Bool} {rn rd rm : RegNum} {s : State} {i : Instr} {c : Cond}
    (hs : s.Ready c 4) (hexec : exec i s = finish (s.conditional c (s.parallelSat op signed rn rd rm))) :
    SatLanes signed op rn rd rm s i :=
  mediaQ_yields hs (by simp) (packLanes_sat op signed _ _) (congrArg (s.satSetsQ && ·) (any_lanesOf op signed _ _)) hexec

/-- Settles O29: the operation of each instruction, its lanes saturated. -/
theorem parallelSaturatingYield : Obligations.ParallelSaturatingYield := by
  intro c rn rd rm s hs
  and_intros <;> exact satLanes_of_exec hs rfl

/-! ## Saturating sums (R441 to R444) and saturation to a number of bits (R486 to R489) -/

theorem ofInt_signedSat (x : Int) (n w : Nat) : BitVec.ofInt w (signedSat x n).1 = satTo true n w x := by
  rw [signedSat_eq]; rfl

theorem ofInt_unsignedSat (x : Int) (n w : Nat) : BitVec.ofInt w (unsignedSat x n).1 = satTo false n w x := by
  rw [unsignedSat_eq]; rfl

theorem signedSat_saturates (x : Int) (n : Nat) : (signedSat x n).2 = saturates true n x := by rw [signedSat_eq]

theorem unsignedSat_saturates (x : Int) (n : Nat) : (unsignedSat x n).2 = saturates false n x := by rw [unsignedSat_eq]

theorem qadd_yields {c : Cond} {i : Instr} {s : State} {rn rd rm : RegNum} {exact exact' : Int} {q q' : Bool}
    (hs : s.Ready c 4) (hx : exact' = exact) (hq : q' = q)
    (hexec : exec i s = finish (s.conditional c (checkMedia [rn, rd, rm] >>= fun _ =>
      (s.writeSat32 rd exact' q').advance 4))) :
    MediaYields [rn, rd, rm] i s (WritesSat s rd (satTo true 32 32 exact) (q || saturates true 32 exact)) :=
  mediaQ_yields hs (by simp) (hx ▸ ofInt_signedSat ..) (hx ▸ hq ▸ congrArg (_ || ·) (signedSat_saturates ..)) hexec

theorem doubled_eq (s : State) (rn : RegNum) : s.doubled rn =
    (clamp (-(2 ^ 31)) (2 ^ 31 - 1) (2 * (s.reg rn).toInt), saturates true 32 (2 * (s.reg rn).toInt)) :=
  signedSat_eq ..

/-- Settles O32: the exact sums and differences, saturated. -/
theorem saturatingArithmeticYields : Obligations.SaturatingArithmeticYields := by
  intro c rn rd rm s hs
  refine ⟨qadd_yields hs rfl rfl rfl, qadd_yields hs rfl rfl rfl, qadd_yields hs ?_ ?_ rfl, qadd_yields hs ?_ ?_ rfl⟩ <;>
  rw [doubled_eq]

theorem immShift_lsl (v : Word) (k : BitVec 5) (c : Bool) : (immShift v .lsl k c).1 = v <<< k.toNat := by
  have hk := k.isLt
  rcases Nat.eq_zero_or_pos k.toNat with h0 | hpos
  · rw [immShift, h0, shift_zero, BitVec.shiftLeft_zero]
  · rw [immShift, shift_lsl_of_pos v c hpos, if_pos (by omega)]

theorem shift_asr_fst (v : Word) {k : Nat} (c : Bool) (hk : 0 < k) : (shift v .asr k c).1 = v.sshiftRight k := by
  rw [shift_asr_of_pos v c hk]
  split
  · rfl
  · exact (sshiftRight_of_le v (by omega)).symm

theorem immShift_asr (v : Word) (k : BitVec 5) (c : Bool) :
    (immShift v .asr k c).1 = v.sshiftRight (if k = 0 then 32 else k.toNat) := by
  refine shift_asr_fst v c ?_
  split
  · decide
  · exact Nat.pos_of_ne_zero fun h => ‹¬ k = 0› (BitVec.eq_of_toNat_eq h)

theorem satOperand_left (s : State) (k : BitVec 5) (rm : RegNum) :
    s.satOperand k false rm = (s.reg rm <<< k.toNat).toInt := congrArg BitVec.toInt (immShift_lsl ..)

theorem satOperand_right (s : State) (k : BitVec 5) (rm : RegNum) :
    s.satOperand k true rm = (s.reg rm).toInt / 2 ^ (if k = 0 then 32 else k.toNat) := by
  rw [toInt_div_two_pow]
  exact congrArg BitVec.toInt (immShift_asr ..)

section
variable {c : Cond} {i : Instr} {s : State} {rd rm : RegNum} {n : Nat} {x y : Int} (hs : s.Ready c 4)
include hs

theorem ssat_yields (hx : y = x) (hexec : exec i s = finish (s.conditional c (checkMedia [rd, rm] >>= fun _ =>
      ((s.setReg rd (BitVec.ofInt 32 (signedSat y n).1)).orQ (signedSat y n).2).advance 4))) :
    MediaYields [rd, rm] i s (WritesSat s rd (satTo true n 32 x) (saturates true n x)) :=
  hx ▸ mediaQ_yields hs (by simp) (ofInt_signedSat ..) (signedSat_saturates ..) hexec

theorem usat_yields (hx : y = x) (hexec : exec i s = finish (s.conditional c (checkMedia [rd, rm] >>= fun _ =>
      ((s.setReg rd (BitVec.ofInt 32 (unsignedSat y n).1)).orQ (unsignedSat y n).2).advance 4))) :
    MediaYields [rd, rm] i s (WritesSat s rd (satTo false n 32 x) (saturates false n x)) :=
  hx ▸ mediaQ_yields hs (by simp) (ofInt_unsignedSat ..) (unsignedSat_saturates ..) hexec

end

/-- Settles O33: the operand of each form, saturated. -/
theorem saturateInstructionsYield : Obligations.SaturateInstructionsYield := by
  intro c n5 n4 rd k rm s hs
  refine ⟨ssat_yields hs (satOperand_left ..) rfl, ssat_yields hs (satOperand_right ..) rfl,
    usat_yields hs (satOperand_left ..) rfl, usat_yields hs (satOperand_right ..) rfl,
    mediaQ_yields hs (by simp) ?_ ?_ rfl, mediaQ_yields hs (by simp) ?_ ?_ rfl⟩
  · rw [ofInt_signedSat, ofInt_signedSat]; rfl
  · rw [signedSat_saturates, signedSat_saturates]; rfl
  · rw [ofInt_unsignedSat, ofInt_unsignedSat]; rfl
  · rw [unsignedSat_saturates, unsignedSat_saturates]; rfl

/-! ## Extends (R490 to R502) -/

section
variable (acc sh : Word)

theorem extendB16_signed : extendB16 true acc sh =
    (topHalf acc + (byteAt sh 2).signExtend 16) ++ (lowHalf acc + (byteAt sh 0).signExtend 16) := rfl

theorem extendB16_unsigned : extendB16 false acc sh =
    (topHalf acc + (byteAt sh 2).setWidth 16) ++ (lowHalf acc + (byteAt sh 0).setWidth 16) := rfl

theorem extendB_signed : extendB true sh = (byteAt sh 0).signExtend 32 := rfl
theorem extendB_unsigned : extendB false sh = (byteAt sh 0).setWidth 32 := rfl
theorem extendH_signed : extendH true sh = (lowHalf sh).signExtend 32 := rfl
theorem extendH_unsigned : extendH false sh = (lowHalf sh).setWidth 32 := rfl

end

theorem halves_zero_add (x y : Half) : (topHalf 0 + x) ++ (lowHalf 0 + y) = (x ++ y : Word) := by
  rw [topHalf, lowHalf, BitVec.ofNat_eq_ofNat, BitVec.extractLsb'_zero, BitVec.extractLsb'_zero, BitVec.zero_add,
    BitVec.zero_add]

/-- Settles O34: the extended byte or half of each form, and its sum. -/
theorem extendsYield : Obligations.ExtendsYield := by
  intro c rn rd rot rm s hs
  have h1 : rd ∈ [rd, rm] := by simp
  have h2 : rd ∈ [rn, rd, rm] := by simp
  refine ⟨mediaWord_yields hs h1 ?sxtb16 rfl, mediaWord_yields hs h1 (extendB_signed _) rfl,
    mediaWord_yields hs h1 (extendH_signed _) rfl, mediaWord_yields hs h1 ?uxtb16 rfl,
    mediaWord_yields hs h1 (extendB_unsigned _) rfl, mediaWord_yields hs h1 (extendH_unsigned _) rfl,
    mediaWord_yields hs h2 (extendB16_signed ..) rfl, mediaWord_yields hs h2 (congrArg _ (extendB_signed _)) rfl,
    mediaWord_yields hs h2 (congrArg _ (extendH_signed _)) rfl, mediaWord_yields hs h2 (extendB16_unsigned ..) rfl,
    mediaWord_yields hs h2 (congrArg _ (extendB_unsigned _)) rfl,
    mediaWord_yields hs h2 (congrArg _ (extendH_unsigned _)) rfl⟩
  case sxtb16 => exact (extendB16_signed ..).trans (halves_zero_add ..)
  case uxtb16 => exact (extendB16_unsigned ..).trans (halves_zero_add ..)

/-! ## Selection, packing, reversal, sums of differences (R485, R503 to R509) -/

/-- The top half of one word over the bottom half of another. -/
theorem or_and_masks (a b : Word) : (a &&& 0xFFFF0000) ||| (b &&& 0x0000FFFF) = topHalf a ++ lowHalf b := by
  have htop : ∀ j < 32, (0xFFFF0000 : Word).getLsbD j = decide (16 ≤ j) := by decide
  have hlow : ∀ j < 32, (0x0000FFFF : Word).getLsbD j = decide (j < 16) := by decide
  refine BitVec.eq_of_getLsbD_eq fun j hj => ?_
  rw [BitVec.getLsbD_or, BitVec.getLsbD_and, BitVec.getLsbD_and, htop j hj, hlow j hj, BitVec.getLsbD_append, topHalf,
    lowHalf, BitVec.getLsbD_extractLsb', BitVec.getLsbD_extractLsb']
  by_cases h : j < 16
  · simp [h, show ¬ 16 ≤ j by omega]
  · simp [h, show 16 ≤ j by omega, show j - 16 < 16 by omega]

/-- The sign of two bytes is that of the top one. -/
theorem signExtend_append (x y : Byte) : (x ++ y : Half).signExtend 32 = x.signExtend 24 ++ y := by
  refine BitVec.eq_of_getLsbD_eq fun j hj => ?_
  rw [BitVec.getLsbD_signExtend, BitVec.getLsbD_append, BitVec.getLsbD_append, BitVec.getLsbD_signExtend,
    BitVec.msb_append]
  by_cases h : j < 8
  · simp [h, show j < 16 by omega, hj]
  · by_cases h16 : j < 16
    · simp [h, h16, hj, show j - 8 < 8 by omega, show j - 8 < 24 by omega]
    · simp [h, h16, hj, show ¬ j - 8 < 8 by omega, show j - 8 < 24 by omega]

theorem natAbs_sub_eq (x y : Nat) : ((x : Int) - y).natAbs = (x - y) + (y - x) := by omega

theorem sumDiff_four (a b : Word) : sumDiff a b 4 =
    ((byteAt a 3).toNat - (byteAt b 3).toNat + ((byteAt b 3).toNat - (byteAt a 3).toNat)) +
    ((byteAt a 2).toNat - (byteAt b 2).toNat + ((byteAt b 2).toNat - (byteAt a 2).toNat)) +
    ((byteAt a 1).toNat - (byteAt b 1).toNat + ((byteAt b 1).toNat - (byteAt a 1).toNat)) +
    ((byteAt a 0).toNat - (byteAt b 0).toNat + ((byteAt b 0).toNat - (byteAt a 0).toNat)) := by
  simp only [sumDiff, natAbs_sub_eq, Nat.add_assoc, Nat.add_zero]
  rfl

/-- Settles O35: the word of each instruction. -/
theorem selectPackReverseSumYield : Obligations.SelectPackReverseSumYield := by
  intro c rn rd rs k rm s hs
  refine ⟨mediaWord_yields hs (by simp) rfl rfl, mediaWord_yields hs (by simp) ?bt rfl,
    mediaWord_yields hs (by simp) ?tb rfl, mediaWord_yields hs (by simp) rfl rfl, mediaWord_yields hs (by simp) rfl rfl,
    mediaWord_yields hs (by simp) (signExtend_append ..) rfl, mediaWord_yields hs (by simp) ?sad rfl,
    mediaWord_yields hs (by simp) ?sada rfl⟩
  case bt => rw [or_and_masks, immShift_lsl]
  case tb => rw [or_and_masks, immShift_asr]
  case sad | sada => rw [sumDiff_four]

end Sys2Proof.Machine
end

section
/-! Proofs. The branches of both states: O36, O60. -/

namespace Sys2Proof.Machine

set_option Elab.async false

/-! ## Targets (R261, R620, R631) -/

theorem twoPow_eq_ofNat (k : Nat) : BitVec.twoPow 32 k = BitVec.ofNat 32 (2 ^ k) :=
  BitVec.eq_of_toNat_eq (by rw [BitVec.toNat_twoPow, BitVec.toNat_ofNat])

/-- A sign-extended offset, scaled. -/
theorem signExtend_shiftLeft {n : Nat} (x : BitVec n) (k : Nat) :
    (x.signExtend 32 <<< k : Word) = BitVec.ofInt 32 (2 ^ k * x.toInt) := by
  rw [shiftLeft_eq_mul, twoPow_eq_ofNat, BitVec.ofInt_mul, BitVec.signExtend, ← BitVec.ofInt_natCast, Nat.cast_pow,
    Nat.cast_ofNat]

/-- A zero-extended offset, scaled. -/
theorem setWidth_shiftLeft {n : Nat} (x : BitVec n) (k : Nat) :
    (x.setWidth 32 <<< k : Word) = BitVec.ofNat 32 (2 ^ k * x.toNat) := by
  rw [shiftLeft_eq_mul, twoPow_eq_ofNat, BitVec.ofNat_mul, BitVec.ofNat_toNat]

theorem and_three_add {a b : Word} (ha : a &&& 3 = 0) (hb : b &&& 3 = 0) : (a + b) &&& 3 = 0 := by
  rw [and_three_eq_zero_iff] at *
  rw [BitVec.toNat_add]
  omega

theorem and_one_add {a b : Word} (ha : a &&& 1 = 0) (hb : b &&& 1 = 0) : (a + b) &&& 1 = 0 := by
  rw [and_one_eq_zero_iff] at *
  rw [BitVec.toNat_add]
  omega

theorem ofInt_four_mul_aligned (z : Int) : BitVec.ofInt 32 (4 * z) &&& 3 = 0 := by
  rw [and_three_eq_zero_iff, BitVec.toNat_ofInt]
  omega

theorem ofInt_two_mul_aligned (z : Int) : BitVec.ofInt 32 (2 * z) &&& 1 = 0 := by
  rw [and_one_eq_zero_iff, BitVec.toNat_ofInt]
  omega

/-- Bit 0 of an even address is clear already. -/
theorem and_even {a : Word} (h : a &&& 1 = 0) : a &&& 0xFFFFFFFE = a := by
  have hmask : ∀ j < 32, (0xFFFFFFFE : Word).getLsbD j = decide (j ≠ 0) := by decide
  have h0 : a.getLsbD 0 = false := by rw [getLsbD_zero_eq, h]; rfl
  refine BitVec.eq_of_getLsbD_eq fun j hj => ?_
  rw [BitVec.getLsbD_and, hmask j hj]
  by_cases hj0 : j = 0
  · rw [hj0, h0, Bool.false_and]
  · rw [decide_eq_true hj0, Bool.and_true]

theorem branchTarget_eq (s : State) (imm : BitVec 24) :
    s.branchTarget imm = s.pc + 8 + BitVec.ofInt 32 (4 * imm.toInt) :=
  congrArg (s.pc + 8 + ·) (signExtend_shiftLeft imm 2)

theorem branchTarget_aligned {s : State} (h : s.pc &&& 3 = 0) (imm : BitVec 24) :
    (s.pc + 8 + BitVec.ofInt 32 (4 * imm.toInt)) &&& 3 = 0 :=
  and_three_add (and_three_add h (by decide)) (ofInt_four_mul_aligned _)

/-! ## Links and exchanges (R260, R266, R627) -/

theorem RegsWritten.refl (s : State) (dests : List RegNum) : RegsWritten s s dests :=
  ⟨SameRegs.refl s dests, rfl, SameSystem.refl s, rfl⟩

theorem State.thumb_setReg (s : State) (i : RegNum) (v : Word) : (s.setReg i v).thumb = s.thumb := by
  rw [State.thumb, State.thumb, State.setReg_eq, s.setRegIn_cpsr]

theorem State.mode?_setReg (s : State) (i : RegNum) (v : Word) : (s.setReg i v).mode? = s.mode? :=
  State.mode?_congr (s.setRegIn_cpsr ..)

/-- lr with the link in it, after a later write to the pc. -/
theorem State.reg_link {s t : State} {v : Word} (hregs : t.regs = (s.setReg 14 v).regs) (hm : t.mode? = s.mode?) :
    t.reg 14 = v := State.reg_of_setReg (by decide) hregs hm

/-- A BX that links nothing. -/
theorem exchangesTo_of_exec {i : Instr} {s : State} {a : Word} (hexec : exec i s = finish (s.bxWritePc a)) :
    ExchangesTo a [] i s fun _ => True :=
  exchangeYields_of_exec (u := s) hexec ⟨s.exchanged_thumb a, (RegsWritten.refl s []).exchanged_frame a, trivial⟩

/-- A BX that links. -/
theorem linkedExchange_of_exec {i : Instr} {s : State} {a link : Word}
    (hexec : exec i s = finish ((s.setReg 14 link).bxWritePc a)) :
    ExchangesTo a [14] i s fun t => t.reg 14 = link :=
  exchangeYields_of_exec (u := s.setReg 14 link) hexec ⟨State.exchanged_thumb .., (s.regsWritten_setReg ..).exchanged_frame a,
    State.reg_link rfl ((State.exchanged_mode? ..).trans (s.mode?_setReg ..))⟩

/-- A write of T alone. -/
theorem Written.setT {s u : State} {dests : List RegNum} (h : Written s u dests 0x20) {w : Word} (hw : w = u.cpsr)
    (b : Bool) : Written s (u.setCpsr (setBit w 5 b)) dests 0x20 :=
  h.setCpsr (hw ▸ setBit_and_not w b (by decide) (by decide))

/-- A branch that links and sets T. -/
theorem linkedBranch_setT {s t : State} {link next : Word} {b : Bool}
    (ht : t = ((s.setReg 14 link).setCpsr (setBit s.cpsr 5 b)).setPc next) :
    t.reg 14 = link ∧ t.thumb = b ∧ Frame s t next [14] 0x20 := by
  subst ht
  have hm : ∀ j < 5, (0x20 : Word).getLsbD j = false := by decide
  have hw := (s.written_setReg 14 link hm).setT (s.setRegIn_cpsr ..).symm b
  exact ⟨State.reg_link rfl (mode?_of_sameStatus hw.status hm),
    (setBit_getLsbD _ _ _ _ (by decide) (by decide)).trans (if_pos rfl), hw.setPc_frame next⟩

/-- Settles O36: the target of each form is aligned, so that the branch is made; BX and BLX exchange. -/
theorem armBranchesJump : Obligations.ArmBranchesJump := by
  intro c imm h rm s hc ht hpc
  have hal := branchTarget_aligned hpc imm
  have htgt := branchTarget_eq s imm
  refine ⟨?b, ?bl, ?blx, exchangesTo_of_exec (exec_of_passed hc rfl), ?blxReg, ?bxj⟩
  case b =>
    refine ⟨_, (exec_of_passed hc rfl).trans ?_, s.setPc_frame _⟩
    rw [htgt, State.branchTo_arm ht hal, finish_ok]
  case bl =>
    have hw := s.regsWritten_setReg 14 (s.pc + 4)
    refine ⟨(s.setReg 14 (s.pc + 4)).setPc (s.pc + 8 + BitVec.ofInt 32 (4 * imm.toInt)),
      (exec_of_passed hc rfl).trans ?_, State.reg_link rfl (State.mode?_congr hw.cpsr), hw.setPc_frame _⟩
    rw [htgt, State.linkArm, State.branchTo_arm ((s.thumb_setReg ..).trans ht) hal, finish_ok]
  case blx =>
    refine ⟨_, rfl, linkedBranch_setT ?_⟩
    rw [htgt]; rfl
  case blxReg =>
    have hexec := exec_of_passed (i := .blxReg c rm) hc rfl
    split
    next h15 => rw [hexec, h15]; rfl
    next h15 => exact linkedExchange_of_exec (hexec.trans (by rw [beq_false_of_ne h15]; rfl))
  case bxj =>
    have hexec := exec_of_passed (i := .bxj c rm) hc rfl
    split
    next hje => rw [hexec, if_pos hje, finish_refuse]
    next hje => exact exchangesTo_of_exec (hexec.trans (by rw [if_neg hje]))

/-! ## The Thumb branches (R620 to R633) -/

section
variable {s : State} {i : Instr} {link a target : Word}

theorem near_eq {n : Nat} (x : BitVec n) : s.pc + 4 + (x.signExtend 32 <<< 1) = s.pc + 4 + BitVec.ofInt 32 (2 * x.toInt) :=
  congrArg (s.pc + 4 + ·) (signExtend_shiftLeft x 1)

/-- Branches of Thumb state ignore bit 0, which is clear in a target relative to the pc. -/
theorem branchTo_near (ht : s.thumb = true) (hpc : s.pc &&& 1 = 0) (z : Int) :
    s.branchTo (s.pc + 4 + BitVec.ofInt 32 (2 * z)) = .ok (s.setPc (s.pc + 4 + BitVec.ofInt 32 (2 * z))) := by
  rw [State.branchTo_thumb _ ht, and_even (and_one_add (and_one_add hpc (by decide)) (ofInt_two_mul_aligned z))]

theorem prefixBase_eq (s : State) (p11 : BitVec 11) :
    s.prefixBase p11 = s.pc + 4 + BitVec.ofInt 32 (4096 * p11.toInt) :=
  congrArg (s.pc + 4 + ·) (signExtend_shiftLeft p11 12)

/-- A branch that links and stays in Thumb state. -/
theorem stay_yields (ht : s.thumb = true) (hexec : exec i s = finish ((s.setReg 14 link).branchTo a))
    (ha : a = target) :
    Yields i s fun t => t.reg 14 = link ∧ Frame s t (target &&& 0xFFFFFFFE) [14] 0 := by
  subst ha
  have hw := s.regsWritten_setReg 14 link
  refine ⟨(s.setReg 14 link).setPc (a &&& 0xFFFFFFFE), hexec.trans ?_,
    State.reg_link rfl (State.mode?_congr hw.cpsr), hw.setPc_frame _⟩
  rw [State.branchTo_thumb _ ((s.thumb_setReg ..).trans ht), finish_ok]

theorem State.toArm_link (s : State) (link a : Word) : (s.setReg 14 link).toArm a =
    ((s.setReg 14 link).setCpsr (setBit s.cpsr 5 false)).setPc (a &&& 0xFFFFFFFC) := by
  rw [State.toArm, State.setReg_eq, s.setRegIn_cpsr]; rfl

/-- A branch that links and goes to ARM state. -/
theorem toArm_yields (hexec : exec i s = finish (.ok ((s.setReg 14 link).toArm a))) (ha : a = target) :
    Yields i s fun t => t.thumb = false ∧ t.reg 14 = link ∧ Frame s t (target &&& 0xFFFFFFFC) [14] 0x20 := by
  subst ha
  obtain ⟨hlr, ht, hframe⟩ := linkedBranch_setT (s.toArm_link link a)
  exact ⟨_, hexec, ht, hlr, hframe⟩

end

/-- The second write of lr is the one that stays. -/
theorem State.relink (s : State) (v w p : Word) :
    ((s.setReg 14 v).setPc p).setReg 14 w = (s.setReg 14 w).setPc p := by
  have hm : ((s.setReg 14 v).setPc p).mode? = s.mode? := s.mode?_setReg 14 v
  rw [State.setReg_eq, hm, State.setReg_eq, State.setReg_eq]
  unfold State.setRegIn
  cases bank s.mode? 14 with
  | none => rfl
  | some k =>
    show State.setPc { s with regs := (s.regs.set k.val v).set k.val w } p = _
    rw [Vector.set_set]

/-- The state between the halves of a pair has the target in lr and the pc behind it. -/
theorem suffix_after_prefix {s : State} (ht : s.thumb = true) (far : Word) (o11 : BitVec 11) (o10 : BitVec 10) :
    exec (.tBlSuffix o11) ((s.setReg 14 far).setPc (s.pc + 2)) =
        finish (s.linkPair.branchTo (far + (o11.setWidth 32 <<< 1))) ∧
      exec (.tBlxSuffix o10) ((s.setReg 14 far).setPc (s.pc + 2)) =
        finish (.ok (s.linkPair.toArm (far + (o10.setWidth 32 <<< 2)))) := by
  have hpair : s.pc + 2 + 2 = s.pc + 4 := by bv_omega
  have hlr : ((s.setReg 14 far).setPc (s.pc + 2)).reg 14 = far := State.reg_link rfl (s.mode?_setReg ..)
  have hlink : ((s.setReg 14 far).setPc (s.pc + 2)).linkThumb = s.linkPair.setPc (s.pc + 2) := by
    rw [State.linkThumb, State.relink, State.setPc_pc, hpair]; rfl
  have hthumb : s.linkPair.thumb = true := (s.thumb_setReg ..).trans ht
  constructor
  · show finish (State.branchTo (State.linkThumb _) (State.reg _ 14 + _)) = _
    rw [hlink, hlr, State.branchTo_thumb _ hthumb, State.branchTo_thumb (s := s.linkPair.setPc (s.pc + 2)) _ hthumb]
    rfl
  · show finish (.ok (State.toArm (State.linkThumb _) (State.reg _ 14 + _))) = _
    rw [hlink, hlr]
    rfl

/-- Settles O60: the target of each form; a pair is its halves, one after the other. -/
theorem thumbBranchesJump : Obligations.ThumbBranchesJump := by
  intro c o8 o11 p11 o10 rm s hs ht hpc
  obtain ⟨-, hfit⟩ := hs
  have hfar := prefixBase_eq s p11
  refine ⟨?bCond, ?b, exchangesTo_of_exec rfl, ?blxReg, stay_yields ht rfl ?_, toArm_yields rfl ?_, ?pre,
    stay_yields ht rfl ?_, toArm_yields rfl ?_, ?halves⟩
  case bCond =>
    show ∃ t, finish (if s.passed c then _ else _) = _ ∧ _
    split
    · rw [near_eq, branchTo_near ht hpc]
      exact ⟨_, rfl, s.setPc_frame _⟩
    · rw [State.advance_eq hfit]
      exact ⟨_, rfl, s.setPc_frame _⟩
  case b =>
    refine ⟨_, ?_, s.setPc_frame _⟩
    show finish (s.branchTo _) = _
    rw [near_eq, branchTo_near ht hpc, finish_ok]
  case blxReg =>
    split
    next h15 => rw [h15]; rfl
    next h15 =>
      refine linkedExchange_of_exec ?_
      show finish (unpredictableIf (rm == 15) .blxPc >>= fun _ => _) = _
      rw [beq_false_of_ne h15]; rfl
  case pre =>
    obtain ⟨t, hadv, hw⟩ := State.setReg_advance (rd := 14) (v := s.prefixBase p11) (by decide) hfit
    exact ⟨t, congrArg finish hadv, hfar ▸ hw⟩
  case halves =>
    intro t hnext
    have hu := (s.written_setReg 14 (s.prefixBase p11) (mask := 0) (by decide)).advance_eq hfit
    have ht' : t = (s.setReg 14 (s.prefixBase p11)).setPc (s.pc + 2) := by
      have := (congrArg finish hu).symm.trans hnext
      simpa [eq_comm] using this
    rw [ht']
    exact suffix_after_prefix ht _ o11 o10
  all_goals simp only [hfar, setWidth_shiftLeft, Nat.reducePow]

end Sys2Proof.Machine
end

section
/-! Proofs. The status register moves and the changes of processor state: O37, O38. -/

namespace Sys2Proof.Machine

set_option Elab.async false

/-! ## A write of the whole status register -/

theorem becomesStatus_advance {s : State} {len : Nat} (w : Word) (h : s.pc.toNat + len < 2 ^ 32) :
    ∃ t, (s.setCpsr w).advance len = .ok t ∧ BecomesStatus (BitVec.ofNat 32 len) s w t :=
  ⟨_, State.advance_eq h, rfl, rfl, SameRegs.refl s [], SameStatus.all .., ((SameSystem.refl s).setCpsr w).setPc _,
    .of_mem_eq rfl⟩

theorem becomesStatus_yields {i : Instr} {s : State} {len : Nat} {v w : Word} (h : s.pc.toNat + len < 2 ^ 32)
    (hexec : exec i s = finish ((s.setCpsr v).advance len)) (hv : v = w) :
    Yields i s (BecomesStatus (BitVec.ofNat 32 len) s w) := by
  obtain ⟨t, ht, hpost⟩ := becomesStatus_advance w h
  exact ⟨t, by rw [hexec, hv, ht, finish_ok], hpost⟩

/-! ## MRS and MSR (R303 to R307) -/

theorem msrOperand_eq (s : State) (op : MsrOperand) :
    s.msrOperand op = if msrNamesPc op then unpredictable .msrPc else .ok (s.msrValue op) := by
  cases op with
  | imm op => rfl
  | reg rm =>
    rw [State.msrOperand, msrNamesPc]
    by_cases h : rm = 15
    · rw [if_pos h, if_pos (beq_iff_eq.mpr h)]
    · rw [if_neg h, if_neg (mt beq_iff_eq.mp h)]; rfl

/-- The state with another spsr. -/
def State.withSpsr (s : State) (k : Fin 5) (w : Word) : State := { s with spsr := s.spsr.set k.val w }

theorem State.withSpsr_self (s : State) (k : Fin 5) (w : Word) : (s.withSpsr k w).spsr[k.val] = w :=
  Vector.getElem_set_self k.isLt

theorem State.withSpsr_ne (s : State) {j k : Fin 5} (w : Word) (h : j ≠ k) :
    (s.withSpsr k w).spsr[j.val] = s.spsr[j.val] :=
  Vector.getElem_set_ne k.isLt j.isLt fun e => h (Fin.ext e.symm)

theorem byteMask_eq (f : BitVec 4) : byteMask f = fieldBytes f := by revert f; decide

theorem fieldBytes_low (f : BitVec 4) : fieldBytes f &&& (userMask ||| privMask) &&& 0x1F != 0 ↔ f.getLsbD 0 = true := by
  revert f; decide

section
variable {c : Cond} {rd : RegNum} {f : BitVec 4} {op : MsrOperand} {s : State} (hs : s.Ready c 4)
include hs

theorem mrsSpsr_yields : if rd = 15 then exec (.mrsSpsr c rd) s = .fault .mrsPc
    else match s.spsr? with
      | none => exec (.mrsSpsr c rd) s = .fault .noSpsr
      | some w => Yields (.mrsSpsr c rd) s (WritesReg 4 s rd (w &&& 0xF90F03FF)) := by
  obtain ⟨hc, hpc⟩ := hs
  have hexec := exec_of_passed (i := .mrsSpsr c rd) hc rfl
  split
  next h15 => rw [hexec, h15]; rfl
  next h15 =>
    rw [beq_false_of_ne h15] at hexec
    split
    next hp => rw [hexec, State.needSpsr, hp]; rfl
    next w hp =>
      obtain ⟨t, ht, hw⟩ := State.setReg_advance (v := w &&& psrValid) h15 hpc
      refine ⟨t, ?_, hw⟩
      rw [hexec, State.needSpsr, hp]
      exact congrArg finish ht

theorem msrSpsr_yields : if msrNamesPc op then exec (.msrSpsr c f op) s = .fault .msrPc
    else match s.spsrIndex? with
      | none => exec (.msrSpsr c f op) s = .fault .noSpsr
      | some k => Yields (.msrSpsr c f op) s fun t =>
        let mask := fieldBytes f &&& 0xF90F03FF
        t.spsr[k.val] = (s.spsr[k.val] &&& ~~~mask) ||| (s.msrValue op &&& mask) ∧
        (∀ j : Fin 5, j ≠ k → t.spsr[j.val] = s.spsr[j.val]) ∧
        Frame { s with spsr := t.spsr } t (s.pc + 4) [] 0 := by
  split
  next hop => rw [exec_of_passed (i := .msrSpsr c f op) hs.1 rfl, msrOperand_eq, hop]; rfl
  next hop =>
    have hexec := exec_of_passed (i := .msrSpsr c f op) hs.1 rfl
    rw [msrOperand_eq, if_neg hop, byteMask_eq] at hexec
    split
    next hk => exact hexec.trans (by rw [hk]; rfl)
    next k hk =>
      exact ⟨_, hexec.trans (Eq.trans (by rw [hk]; rfl) (congrArg finish (State.advance_eq
        (s := s.withSpsr k (maskWrite s.spsr[k.val] (s.msrValue op) (fieldBytes f &&& (userMask ||| privMask |||
          stateMask)))) hs.2))), s.withSpsr_self .., fun j hj => s.withSpsr_ne _ hj, State.setPc_frame (s.withSpsr k _) _⟩

theorem exec_msrCpsr (hop : msrNamesPc op = false) : exec (.msrCpsr c f op) s = finish (do
    unpredictableIf (s.privileged && (s.msrValue op ^^^ s.cpsr) &&& fieldBytes f &&& stateMask != 0) .msrState
    unpredictableIf (s.privileged && fieldBytes f &&& s.writableMask &&& 0x1F != 0 &&
      (Mode.ofBits (modeField (s.msrValue op))).isNone) .unlistedMode
    (s.setCpsr (maskWrite s.cpsr (s.msrValue op) (fieldBytes f &&& s.writableMask))).advance 4) := by
  rw [exec_of_passed (i := .msrCpsr c f op) hs.1 rfl, msrOperand_eq, hop, byteMask_eq]; rfl

theorem msrCpsr_yields : if msrNamesPc op then exec (.msrCpsr c f op) s = .fault .msrPc
    else if modeField s.cpsr = 0x10 then Yields (.msrCpsr c f op) s (BecomesStatus 4 s
      ((s.cpsr &&& ~~~(fieldBytes f &&& 0xF80F0200)) ||| (s.msrValue op &&& (fieldBytes f &&& 0xF80F0200))))
    else if (s.msrValue op ^^^ s.cpsr) &&& fieldBytes f &&& 0x01000020 ≠ 0 then
      exec (.msrCpsr c f op) s = .fault .msrState
    else if f.getLsbD 0 = true ∧ listedMode ((s.msrValue op).extractLsb' 0 5) = false then
      exec (.msrCpsr c f op) s = .fault .unlistedMode
    else Yields (.msrCpsr c f op) s (BecomesStatus 4 s
      ((s.cpsr &&& ~~~(fieldBytes f &&& 0xF80F03DF)) ||| (s.msrValue op &&& (fieldBytes f &&& 0xF80F03DF)))) := by
  split
  next hop => rw [exec_of_passed (i := .msrCpsr c f op) hs.1 rfl, msrOperand_eq, hop]; rfl
  next hop =>
    have hexec := exec_msrCpsr hs (f := f) (Bool.eq_false_iff.mpr hop)
    split
    next huser =>
      have hp : s.privileged = false := by
        rw [State.privileged, huser]; rfl
      rw [State.writableMask, hp] at hexec
      exact becomesStatus_yields hs.2 hexec rfl
    next huser =>
      have hp : s.privileged = true := bne_iff_ne.mpr huser
      rw [State.writableMask, hp, if_pos rfl] at hexec
      split
      next hstate =>
        rw [show (s.msrValue op ^^^ s.cpsr) &&& fieldBytes f &&& stateMask != 0 from bne_iff_ne.mpr hstate] at hexec
        exact hexec
      next hstate =>
        rw [show ((s.msrValue op ^^^ s.cpsr) &&& fieldBytes f &&& stateMask != 0) = false from
          bne_eq_false_iff_eq.mpr (not_not.mp hstate)] at hexec
        simp only [listedMode_eq, Option.isSome_eq_false_iff, ← fieldBytes_low]
        split
        next hmode =>
          obtain ⟨hlow, hnone⟩ := hmode
          rw [hlow, show (Mode.ofBits (modeField (s.msrValue op))).isNone = true from hnone] at hexec
          exact hexec
        next hmode =>
          rw [show (true && fieldBytes f &&& (userMask ||| privMask) &&& 0x1F != 0 &&
            (Mode.ofBits (modeField (s.msrValue op))).isNone) = false by
              rw [Bool.true_and]
              exact Bool.eq_false_iff.mpr fun h => hmode (Bool.and_eq_true_iff.mp h)] at hexec
          exact becomesStatus_yields hs.2 hexec rfl

end

/-- Settles O37: the stops of each form in their order, then its masked write. -/
theorem statusMovesYield : Obligations.StatusMovesYield := by
  intro c rd f op s hs
  refine ⟨yieldsUnless_of_exec (exec_of_passed hs.1 rfl) fun hbad => ?_, mrsSpsr_yields hs, msrSpsr_yields hs,
    msrCpsr_yields hs⟩
  exact State.setReg_advance (by simpa using hbad) hs.2

/-! ## CPS and SETEND (R300 to R302, R309, R642, R643) -/

theorem cpsMask_eq (a i f : Bool) : cpsMask a i f =
    (if a then 0x100 else 0) ||| (if i then 0x80 else 0) ||| (if f then 0x40 else 0) := by
  revert a i f; decide

/-- The mode written over the status register. -/
theorem maskWrite_mode (w : Word) (m : BitVec 5) :
    maskWrite w (m.setWidth 32) 0x1F = (w &&& 0xFFFFFFE0) ||| m.setWidth 32 := by
  have hm : ∀ m : BitVec 5, (m.setWidth 32 : Word) &&& 0x1F = m.setWidth 32 := by decide
  rw [maskWrite, hm]; rfl

/-- E written over the status register. -/
theorem setBit_endian (w : Word) (e : Bool) :
    setBit w 9 e = (w &&& 0xFFFFFDFF) ||| if e then 0x200 else 0 := by
  have hkeep : ∀ j < 32, (0xFFFFFDFF : Word).getLsbD j = decide (j ≠ 9) := by decide
  have hset : ∀ j < 32, (if e then 0x200 else 0 : Word).getLsbD j = (decide (j = 9) && e) := by revert e; decide
  refine BitVec.eq_of_getLsbD_eq fun j hj => ?_
  rw [setBit_getLsbD _ _ _ _ (by decide) hj, BitVec.getLsbD_or, BitVec.getLsbD_and, hkeep j hj, hset j hj]
  by_cases h : j = 9 <;> simp [h]

theorem changeMode_eq (s : State) (mode : BitVec 5) : s.changeMode mode =
    if listedMode mode then .ok (s.setCpsr ((s.cpsr &&& 0xFFFFFFE0) ||| mode.setWidth 32))
    else unpredictable .unlistedMode := by
  rw [State.changeMode, State.setModeField_eq, maskWrite_mode, listedMode_eq]
  cases Mode.ofBits mode <;> rfl

theorem maskBits_eq (s : State) (disable a i f : Bool) : s.maskBits disable (cpsMask a i f) =
    s.setCpsr (if disable then s.cpsr ||| ((if a then 0x100 else 0) ||| (if i then 0x80 else 0) ||| (if f then 0x40 else 0))
      else s.cpsr &&& ~~~((if a then 0x100 else 0) ||| (if i then 0x80 else 0) ||| (if f then 0x40 else 0))) := by
  rw [State.maskBits, cpsMask_eq]

section
variable {i : Instr} {s : State} {v : Word} {mode : BitVec 5} (hpc : s.pc.toNat + 4 < 2 ^ 32)
include hpc

/-- An instruction with no effect in user mode. -/
theorem unchanged_yields (hexec : exec i s = finish (s.advance 4)) : Yields i s (BecomesStatus 4 s s.cpsr) :=
  becomesStatus_yields hpc hexec rfl

/-- A change of mode after a write of the masks, and its stop. -/
theorem changeMode_yields (hexec : exec i s = finish ((s.setCpsr v).changeMode mode >>= fun u => u.advance 4)) :
    if listedMode mode then Yields i s (BecomesStatus 4 s ((v &&& 0xFFFFFFE0) ||| mode.setWidth 32))
    else exec i s = .fault .unlistedMode := by
  rw [changeMode_eq] at hexec
  split
  next h =>
    rw [if_pos h] at hexec
    exact becomesStatus_yields hpc hexec rfl
  next h =>
    rw [if_neg h] at hexec
    exact hexec

end

/-- Settles O38: no effect in user mode; else the masks, then the mode. -/
theorem processorStateChangesYield : Obligations.ProcessorStateChangesYield := by
  intro mode disable m a i f e s hpc
  have hpc2 : s.pc.toNat + 2 < 2 ^ 32 := by omega
  have hmasked := maskBits_eq s disable a i f
  refine ⟨?mode, ?flags, ?thumb, becomesStatus_yields hpc rfl (setBit_endian ..),
    becomesStatus_yields hpc2 rfl (setBit_endian ..)⟩
  case mode =>
    split
    next hp => exact unchanged_yields hpc (congrArg finish (if_neg (Bool.eq_false_iff.mp hp)))
    next hp =>
      exact changeMode_yields (v := s.cpsr) hpc (congrArg finish (if_pos (Bool.eq_true_of_not_eq_false hp)))
  case flags =>
    split
    next hp => exact unchanged_yields hpc (congrArg finish (if_neg (Bool.eq_false_iff.mp hp)))
    next hp =>
      have hexec : exec (.cpsFlags disable m a i f mode) s = finish ((if m then
          (s.maskBits disable (cpsMask a i f)).changeMode mode else .ok (s.maskBits disable (cpsMask a i f))) >>=
          fun u => u.advance 4) := congrArg finish (if_pos (Bool.eq_true_of_not_eq_false hp))
      rw [hmasked] at hexec
      split
      next hm =>
        rw [if_neg (Bool.eq_false_iff.mp hm)] at hexec
        exact becomesStatus_yields hpc hexec rfl
      next hm =>
        rw [if_pos (Bool.eq_true_of_not_eq_false hm)] at hexec
        exact changeMode_yields hpc hexec
  case thumb =>
    have hexec : exec (.tCps disable a i f) s = finish (unpredictableIf (!(a || i || f)) .cpsNoFlag >>= fun _ =>
      (if s.privileged then s.maskBits disable (cpsMask a i f) else s).advance 2) := rfl
    split
    next h =>
      obtain ⟨rfl, rfl, rfl⟩ := h
      exact hexec
    next h =>
      have hflag : (!(a || i || f)) = false := by
        rw [Bool.not_eq_false', Bool.or_eq_true, Bool.or_eq_true]
        simp only [← Bool.not_eq_true, not_and_or, not_not] at h
        tauto
      rw [hflag, hmasked] at hexec
      cases hp : s.privileged with
      | false => exact becomesStatus_yields (v := s.cpsr) hpc2 (by rw [hexec, hp]; rfl) rfl
      | true => exact becomesStatus_yields hpc2 (by rw [hexec, hp]; rfl) rfl

end Sys2Proof.Machine
end

section
/-! Proofs. The loads of words and bytes, the Thumb loads, the swaps and the preload hint: O43, O48, O57. -/

namespace Sys2Proof.Machine

set_option Elab.async false

/-! ## A load to pc (R331) -/

theorem State.reg_exchanged (s : State) (a : Word) {r : RegNum} (h : r ≠ 15) : (s.exchanged a).reg r = s.reg r := by
  rw [State.reg, State.exchanged_mode?]
  exact State.regIn_congr (s := s) (t := s.exchanged a) rfl s.mode? h

theorem State.regsWritten_setBase (s : State) (rn : RegNum) (wb : Option Word) :
    RegsWritten s (s.setBase rn wb) (baseDest rn wb) where
  regs := (SameRegs.refl s _).setBase rfl fun _ h => h
  cpsr := s.setBase_cpsr rn wb
  system := (SameSystem.refl s).setBase
  mem := s.setBase_mem rn wb

/-- LDR: a value for pc is an exchange, any other goes to Rd. -/
theorem ldr_yields {c : Cond} {idx : Indexing} {u : Bool} {rn rd : RegNum} {off : WordOffset} {s : State}
    (hc : s.passed c = true) (hpc : s.pc.toNat + 4 < 2 ^ 32) :
    let x := transferAddress idx u (s.reg rn) (s.wordOffset off); let w := s.loadedWord x.1
    let ldr := Instr.ldr c idx u rn rd off
    WordYields (transferStops x.2.isSome rn rd (offsetReg off) true) x.1 .read s.privileged ldr s
      (if rd = 15 then YieldsUnless (decide (w &&& 3 = 2)) .exchangeUnaligned ldr s fun t =>
          t.thumb = w.getLsbD 0 ∧ BaseIs t rn x.2 ∧ Frame s t (w &&& 0xFFFFFFFE) (baseDest rn x.2) 0x20
        else Yields ldr s (Loaded s rn rd x.2 w)) := by
  intro x w ldr
  have hexec : exec ldr s = finish (checkTransfer (writesBack idx) rn rd (offsetReg off) true >>= fun _ =>
      s.loadWord (s.wordAddress idx u rn off).addr s.privileged >>= fun v =>
        if rd = 15 then (s.writeBase rn (s.wordAddress idx u rn off)).loadWritePc v
        else s.endLoad rn rd (s.wordAddress idx u rn off) v) := exec_of_passed hc rfl
  rw [State.wordAddress, indexedAddress_addr, writesBack_eq idx u (s.reg rn) (s.wordOffset off)] at hexec
  refine accessYields_of_transfer hexec (s.loadWord_eq ..) fun hb he => ?_
  obtain ⟨hne, hrn, -⟩ := registers_of_not_stops hb
  split
  next h15 =>
    rw [if_pos h15, State.writeBase_indexedAddress] at he
    refine exchangeYields_of_exec he ⟨State.exchanged_thumb .., fun v hv => ?_,
      (s.regsWritten_setBase rn x.2).exchanged_frame w⟩
    have h : x.2.isSome = true := hv ▸ rfl
    rw [State.reg_exchanged _ _ (hrn h)]
    exact State.baseIs_setBase hrn v hv
  next h15 =>
    rw [if_neg h15, s.endLoad_eq rn rd idx u _ _ _ hpc] at he
    exact ⟨_, he, s.afterLoad_reg _ _ h15, s.afterLoad_baseIs _ _ hrn hne, s.afterLoad_frame ..⟩

/-- Settles O43: each load is its checks, one read, and the base with Rd or an exchange. -/
theorem wordAndByteLoadsYield : Obligations.WordAndByteLoadsYield := by
  intro c idx u rn rd off s ⟨hc, hpc⟩ x y bad badT w ldr
  refine ⟨ldr_yields hc hpc, ?ldrb, ?ldrt, ?ldrbt⟩
  case ldrb =>
    exact loadYields_of_exec (fun a => s.loadByte a s.privileged) id (exec_of_passed hc rfl) hpc (s.loadByte_eq ..)
  case ldrt =>
    exact loadYields_of_exec (idx := .post) (fun a => s.loadWord a false) id (exec_of_passed hc rfl) hpc
      (s.loadWord_eq ..)
  case ldrbt =>
    exact loadYields_of_exec (idx := .post) (fun a => s.loadByte a false) id (exec_of_passed hc rfl) hpc
      (s.loadByte_eq ..)

/-! ## Thumb loads (R590) -/

theorem State.pcRelative_eq (s : State) (imm : BitVec 8) :
    s.pcRelative imm = ((s.pc + 4) &&& 0xFFFFFFFC) + 4 * imm.setWidth 32 := by
  rw [State.pcRelative, shiftLeft_two]; rfl

section
variable {i : Instr} {s : State} {ld : LowReg} {a : Word} (hpc : s.pc.toNat + 2 < 2 ^ 32)
include hpc

/-- A Thumb move of a value to a low register. -/
theorem tMove_yields {v : Word} (hexec : exec i s = finish (s.tMove ld v)) :
    Yields i s (WritesReg 2 s (low ld) v) := by
  obtain ⟨t, ht, hpost⟩ := State.setReg_advance (v := v) (low_ne_fifteen ld) hpc
  refine ⟨t, ?_, hpost⟩
  rw [hexec, show s.tMove ld v = .ok t from ht, finish_ok]

/-- A Thumb load ends as its access does. -/
theorem thumbLoadYields_of_exec {al op : Bool} {b : Word} {n : Nat} {priv : Bool} {x : Word} {load : Res Word}
    (ext : Word → Word) (hexec : exec i s = finish (load >>= fun v => s.tMove ld (ext v)))
    (hload : load = accessResult al op b n .read priv s x) :
    AccessYields false al op b n .read priv i s (Yields i s (WritesReg 2 s (low ld) (ext x))) :=
  accessYields_of_thumb hexec hload (tMove_yields hpc)

end

/-- Settles O57: the three widths of load, at the address of each form. -/
theorem thumbLoadsYield : Obligations.ThumbLoadsYield := by
  intro imm5 imm8 lm ln ld s ⟨_, hpc⟩ sum off pcRel spRel loaded word half byte
  have hsp : s.spRelative imm8 = spRel := s.spRelative_eq imm8
  have hpcRel : s.pcRelative imm8 = pcRel := s.pcRelative_eq imm8
  have hoff : ∀ k, s.tImmAddress ln imm5 k = off (BitVec.twoPow 32 k) := s.tImmAddress_eq ln imm5
  have hword {i : Instr} {a : Word} (h : exec i s = finish (s.tLoadWord ld a)) : word i a :=
    thumbLoadYields_of_exec hpc id h (s.loadWord_eq ..)
  have hhalf {i : Instr} {a : Word} (ext : Word → Word) (h : exec i s = finish (s.tLoadHalf ext ld a)) :
      half i a (ext ((s.dataHalf a).setWidth 32)) := thumbLoadYields_of_exec hpc ext h (s.loadHalf_eq ..)
  have hbyte {i : Instr} {a : Word} (ext : Word → Word) (h : exec i s = finish (s.tLoadByte ext ld a)) :
      byte i a (ext ((s.byte a).setWidth 32)) := thumbLoadYields_of_exec hpc ext h (s.loadByte_eq ..)
  refine ⟨hword (hpcRel ▸ rfl), hword (hsp ▸ rfl), hword (hoff 2 ▸ rfl), hword rfl, hhalf id (hoff 1 ▸ rfl),
    hhalf id rfl, ?ldrsh, hbyte id (hoff 0 ▸ rfl), hbyte id rfl, ?ldrsb⟩
  case ldrsh => exact signHalf_setWidth (s.dataHalf sum) ▸ hhalf signHalf rfl
  case ldrsb => exact signByte_setWidth (s.byte sum) ▸ hbyte signByte rfl

/-! ## Swaps (R350, R351) -/

/-- A swap writes its bytes, Rd and the pc. -/
theorem State.swapped_frame (s : State) (a : Word) {bs : List Byte} {n : Nat} (hn : bs.length = n) (rd : RegNum)
    (v next : Word) : StoreFrame s (s.afterExclusive a bs rd v next) next [rd] a n where
  pc := rfl
  regs := s.afterExclusive_regs a bs rd v next
  status := s.afterExclusive_cpsr ..
  system := s.afterExclusive_system ..
  memory := hn ▸ (s.sameMemoryBut_setBytes a bs).of_mem_eq (s.afterExclusive_mem ..)

/-- The read, the write and Rd of a swap; an abort of either access leaves the state. -/
theorem swap_yields {i : Instr} {s : State} {a v : Word} {rd : RegNum} {n : Nat} {post : State → Prop}
    (hpc : s.pc.toNat + 4 < 2 ^ 32) (hw : crossesTop a n = false)
    (hexec : exec i s = finish (s.memRead a n s.privileged >>= fun x =>
      s.memWrite a n v s.privileged >>= fun u => (u.setReg rd x).advance 4))
    (hpost : post (s.afterExclusive a (unpackData s.bigEndian v n) rd (packData s.bigEndian (s.bytesAt a n))
      (s.pc + 4))) :
    if s.extAbort a n .read s.privileged || s.extAbort a n .write s.privileged then
      exec i s = .next (enter .dataAbort s)
    else Yields i s post := by
  cases hr : s.extAbort a n .read s.privileged with
  | true => rw [State.memRead_abort hw hr] at hexec; exact hexec
  | false =>
    rw [State.memRead_open hw hr] at hexec
    cases ha : s.extAbort a n .write s.privileged with
    | true => rw [State.memWrite_abort hw ha] at hexec; exact hexec
    | false =>
      rw [State.memWrite_open hw ha] at hexec
      exact ⟨_, hexec.trans (congrArg finish (State.endExclusive_eq a _ rd _ rfl hpc)), hpost⟩

/-- Settles O48: the tests, then the two accesses; the hint only advances the pc. -/
theorem swapsAndPreloadYield : Obligations.SwapsAndPreloadYield := by
  intro c u rn rd rm off s ⟨hc, hpc⟩ a bad swp swpb aborts
  have hrd (hbad : bad = false) : rd ≠ 15 := by
    simp only [bad, Bool.or_eq_false_iff, beq_eq_false_iff_ne] at hbad
    exact hbad.1.1.1.1
  refine ⟨?swp, ?swpb, ?pld⟩
  case swp =>
    refine exclusiveYields_of_exec (exec_of_passed hc rfl) fun hbad hw hexec =>
      swap_yields hpc hw hexec ⟨?_, ?_, s.swapped_frame a (length_unpackData ..) ..⟩
    · rw [State.afterExclusive_reg _ _ _ _ _ _ (hrd hbad), State.packData_bytesAt_four]
    · rw [State.afterExclusive_dataWord, s.dataWord_stored]
  case swpb =>
    have hexec : exec swpb s = finish (unpredictableIf bad .swapRegister >>= fun _ =>
        s.memRead a 1 s.privileged >>= fun x =>
          s.memWrite a 1 (s.reg rm) s.privileged >>= fun t => (t.setReg rd x).advance 4) := exec_of_passed hc rfl
    cases hbad : bad with
    | true => rw [hbad] at hexec; exact hexec
    | false =>
      rw [hbad] at hexec
      refine swap_yields hpc ?_ hexec ⟨?_, ?_, s.swapped_frame a (length_unpackData ..) ..⟩
      · rw [crossesTop_eq_false_iff]; omega
      · rw [State.afterExclusive_reg _ _ _ _ _ _ (hrd hbad), State.packData_bytesAt_one]
      · rw [State.byte_congr (s.afterExclusive_mem ..), s.byte_stored]
  case pld =>
    split
    next h => exact congrArg (fun b => finish (unpredictableIf b Fault.offsetPc >>= fun _ => s.advance 4)) (beq_iff_eq.2 h)
    next h =>
      have hexec : exec (.pld u rn off) s = finish (unpredictableIf (offsetReg off == some 15) .offsetPc >>= fun _ =>
        s.advance 4) := rfl
      rw [hexec, beq_eq_false_iff_ne.2 h, State.advance_eq hpc]
      rfl

end Sys2Proof.Machine
end

section
/-! Proofs. Thumb data processing: O54, O55, O56. -/

namespace Sys2Proof.Machine

set_option Elab.async false

theorem flags_of_psrNZ {t : State} {w r : Word} (h : t.cpsr = psrNZ w r) : t.flagN = r.msb ∧ t.flagZ = (r == 0) := by
  have hbit := fun {j : Nat} (hj : j < 32) => (congrArg (BitVec.getLsbD · j) h).trans
    ((setBit_getLsbD _ _ _ (r == 0) (by decide) hj).trans (if_congr Iff.rfl rfl (setBit_getLsbD _ _ _ _ (by decide) hj)))
  exact ⟨hbit (by decide), hbit (by decide)⟩

/-! ## A result to a low register and its flags (R521) -/

section
variable {i : Instr} {s u : State} {ld : LowReg} {mask r : Word} {flags : State → Prop}
  (hpc : s.pc.toNat + 2 < 2 ^ 32) (hm : ∀ j < 5, mask.getLsbD j = false)
include hpc hm

theorem lowYields_of_written (hexec : exec i s = finish (u.advance 2)) (hu : Written s u [low ld] mask)
    (hregs : u.regs = (s.setReg (low ld) r).regs)
    (hpost : ∀ t : State, t.cpsr = u.cpsr → t.flagN = r.msb ∧ t.flagZ = (r == 0) ∧ flags t) :
    LowYields i s ld mask r flags := by
  rw [hu.advance_eq hpc] at hexec
  exact ⟨_, hexec, State.reg_of_setReg (low_ne_fifteen ld) hregs (mode?_of_sameStatus hu.status hm),
    hu.setPc_frame _, hpost _ rfl⟩

/-- As `lowYields_of_written`, for a status register that takes its bits under the mask from `w`. -/
theorem lowYields_of_exec {w : Word} (hexec : exec i s = finish (((s.setLreg ld r).setCpsr w).advance 2))
    (hw : w &&& ~~~mask = (s.setLreg ld r).cpsr &&& ~~~mask)
    (hpost : ∀ t : State, t.cpsr = w → t.flagN = r.msb ∧ t.flagZ = (r == 0) ∧ flags t) :
    LowYields i s ld mask r flags :=
  lowYields_of_written hpc hm hexec ((s.written_setReg (low ld) r hm).setCpsr hw) rfl hpost

end

section
variable {i : Instr} {s : State} {ld : LowReg} {r : Word} (hpc : s.pc.toNat + 2 < 2 ^ 32)
include hpc

theorem tLogic_yields (hexec : exec i s = finish (s.tLogic ld r)) : LowYields i s ld maskNZ r fun _ => True :=
  lowYields_of_exec hpc (by decide) hexec (psrNZ_and_not _ _ (by decide) (by decide)) fun _ h =>
    have ⟨hn, hz⟩ := flags_of_psrNZ h
    ⟨hn, hz, trivial⟩

theorem tShift_yields {x : Word × Bool} (hexec : exec i s = finish (s.tShift ld x)) :
    LowYields i s ld maskNZC x.1 fun t => t.flagC = x.2 :=
  lowYields_of_exec hpc (by decide) hexec (flagsNZC_and_not ..) fun _ h => flags_of_flagsNZC h

theorem tArith_yields {x : Word × Bool × Bool} {carry : Bool} {exact : Int}
    (hexec : exec i s = finish (s.tArith ld x)) (hsum : IsSum x r carry exact) :
    LowYields i s ld maskNZCV r fun t => t.flagC = carry ∧ t.flagV = overflowed r exact := by
  obtain ⟨rfl, rfl, hv⟩ := hsum
  exact lowYields_of_exec hpc (by decide) hexec (flagsNZCV_and_not ..) fun _ h => hv ▸ flags_of_flagsNZCV h

/-! ## Only flags -/

theorem statusYields_of_exec {w mask : Word} {post : State → Prop}
    (hexec : exec i s = finish ((s.setCpsr w).advance 2)) (hw : w &&& ~~~mask = s.cpsr &&& ~~~mask)
    (hpost : ∀ t : State, t.cpsr = w → post t) : Yields i s fun t => Frame s t (s.pc + 2) [] mask ∧ post t := by
  have hu := (Written.refl s [] mask).setCpsr hw
  rw [hu.advance_eq hpc] at hexec
  exact ⟨_, hexec, hu.setPc_frame _, hpost _ rfl⟩

theorem tCompare_yields {x : Word × Bool × Bool} {carry : Bool} {exact : Int}
    (hexec : exec i s = finish (s.tCompare x)) (hsum : IsSum x r carry exact) :
    Yields i s fun t => Frame s t (s.pc + 2) [] maskNZCV ∧ t.flagN = r.msb ∧ t.flagZ = (r == 0) ∧ t.flagC = carry ∧
      t.flagV = overflowed r exact := by
  obtain ⟨rfl, rfl, hv⟩ := hsum
  exact statusYields_of_exec hpc hexec (flagsNZCV_and_not ..) fun _ h => hv ▸ flags_of_flagsNZCV h

end

/-- Settles O54: the words of the shifter and of the logical operations; MUL draws a free C. -/
theorem thumbShiftsAndLogicYield : Obligations.ThumbShiftsAndLogicYield := by
  intro imm5 imm8 lm ld s ⟨_, hpc⟩ m d cin k shifted logic full
  refine ⟨tShift_yields hpc rfl, tShift_yields hpc rfl, tShift_yields hpc rfl, tShift_yields hpc rfl,
    tShift_yields hpc rfl, tShift_yields hpc rfl, tShift_yields hpc rfl, tLogic_yields hpc rfl, tLogic_yields hpc rfl,
    tLogic_yields hpc rfl, tLogic_yields hpc rfl, tLogic_yields hpc rfl, tLogic_yields hpc rfl, ?tst, ?mul⟩
  case tst =>
    exact statusYields_of_exec hpc rfl (psrNZ_and_not _ _ (by decide) (by decide)) fun _ h => flags_of_psrNZ h
  case mul =>
    have hexec : exec (.tMul lm ld) s = finish (unpredictableIf (ld == lm) .multiplyOverlap >>= fun _ =>
      (((s.setLreg ld (m * d)).drawBit.2).setNZC (m * d) s.drawBit.1).advance 2) := rfl
    split
    next h => rw [hexec, beq_iff_eq.2 h.symm]; rfl
    next h =>
      rw [beq_eq_false_iff_ne.2 (Ne.symm h)] at hexec
      refine lowYields_of_written hpc (by decide) hexec
        ((s.written_setReg (low ld) (m * d) (by decide)).drawBit.setCpsr (flagsNZC_and_not ..)) rfl fun _ ht => ?_
      obtain ⟨hn, hz, -⟩ := flags_of_flagsNZC ht
      exact ⟨hn, hz, trivial⟩

/-- A difference without a borrow into it. -/
theorem isSum_compare (x y : Word) : IsSum (addWithCarry x (~~~y) true) (x - y) (noBorrow x y false)
    (x.toInt - y.toInt - false.toNat) := by
  have hsub : x - y - bitWord (!true) = x - y := BitVec.sub_zero _
  exact hsub ▸ isSum_sbc x y true

/-- Settles O55: each is an addition with carry of its operands or of a complement. -/
theorem thumbArithmeticYields : Obligations.ThumbArithmeticYields := by
  intro imm3 imm8 lm ln ld rn rm s ⟨_, hpc⟩ m n d cin sum dif test
  have htest {i : Instr} {x y : Word} (h : exec i s = finish (s.tCompare (addWithCarry x (~~~y) true))) :
      test i (x - y) (DifferenceFlags x y false) := by
    have hsub : x - y - bitWord false = x - y := BitVec.sub_zero _
    unfold test DifferenceFlags
    rw [hsub]
    exact tCompare_yields hpc h (isSum_compare x y)
  have hadd : n + m + bitWord false = n + m := BitVec.add_zero _
  refine ⟨tArith_yields hpc rfl (isSum_adc _ _ false), tArith_yields hpc rfl (isSum_sbc _ _ true),
    tArith_yields hpc rfl (isSum_adc _ _ false), tArith_yields hpc rfl (isSum_sbc _ _ true),
    tArith_yields hpc rfl (isSum_adc _ _ false), tArith_yields hpc rfl (isSum_sbc _ _ true),
    tArith_yields hpc rfl (isSum_adc ..), tArith_yields hpc rfl (isSum_sbc ..),
    tArith_yields hpc rfl (isSum_rsc _ _ true), htest rfl, htest rfl, ?cmn, htest rfl⟩
  unfold test SumFlags
  rw [hadd]
  exact tCompare_yields hpc rfl (hadd ▸ isSum_adc n m false)

/-! ## Moves (R550 to R567) -/

/-- A value to any register; to pc it is a jump that stays in Thumb state. -/
theorem tWriteHigh_yields {i : Instr} {s : State} {rd : RegNum} {r : Word} (hpc : s.pc.toNat + 2 < 2 ^ 32)
    (ht : s.thumb = true) (hexec : exec i s = finish (s.tWriteHigh rd r)) :
    if rd = 15 then Yields i s fun t => Frame s t (r &&& 0xFFFFFFFE) [] 0 else Yields i s (WritesReg 2 s rd r) := by
  rw [State.tWriteHigh] at hexec
  split
  next h =>
    rw [if_pos h, State.branchTo_thumb _ ht] at hexec
    exact ⟨_, hexec, s.setPc_frame _⟩
  next h =>
    rw [if_neg h] at hexec
    obtain ⟨t, ht, hpost⟩ := State.setReg_advance (v := r) h hpc
    exact ⟨t, by rw [hexec, ht, finish_ok], hpost⟩

/-- Settles O56: a value to its register, no flag. -/
theorem thumbMovesAndExtendsYield : Obligations.ThumbMovesAndExtendsYield := by
  intro imm8 imm7 lm ld rd rm s ⟨_, hpc⟩ hthumb m sp moved high
  have hsp {i : Instr} {v : Word} (h : exec i s = finish ((s.setReg 13 v).advance 2)) :
      Yields i s (WritesReg 2 s 13 v) := by
    obtain ⟨t, ht, hpost⟩ := State.setReg_advance (v := v) (show (13 : RegNum) ≠ 15 by decide) hpc
    exact ⟨t, by rw [h, ht, finish_ok], hpost⟩
  refine ⟨tWriteHigh_yields hpc hthumb rfl, tWriteHigh_yields hpc hthumb rfl, tMove_yields hpc rfl,
    tMove_yields hpc (s.pcRelative_eq imm8 ▸ rfl), tMove_yields hpc (s.spRelative_eq imm8 ▸ rfl),
    hsp (shiftLeft_two (imm7.setWidth 32) ▸ rfl), hsp (shiftLeft_two (imm7.setWidth 32) ▸ rfl),
    tMove_yields hpc rfl, tMove_yields hpc rfl, tMove_yields hpc rfl, tMove_yields hpc rfl, tMove_yields hpc rfl,
    tMove_yields hpc rfl, ?revsh⟩
  exact tMove_yields hpc (signExtend_append (byteAt m 0) (byteAt m 1) ▸ rfl)

end Sys2Proof.Machine
end

section
/-! Proofs. The coprocessor instructions but LDC and STC: O39, O40, O41. -/

namespace Sys2Proof.Machine

set_option Elab.async false

/-! ## What every coprocessor instruction tests first (R280, R282) -/

/-- The instruction is the tests of coprocessor `p` and then something that p15 refuses unless it describes it. -/
def TestsFirst (s : State) (p : RegNum) (x : CpCase) (b : Option Fault) : Prop :=
  ∃ rest : Unit → Res State, exec x.instr s = finish (s.checkCp p x.instr b >>= rest) ∧
    (p = 15 → describedOfP15 x.req = false → rest () = refuse .cp15Operation)

theorem cpBroken_eq (k : CpKind) (rn rd : RegNum) (addr : CpAddressing) :
    cpBroken k rn rd addr = match k with
      | .cdp | .mrc => none
      | .mcr => restriction (rd == 15) .coprocessorRegister
      | .mcrr => restriction (rd == 15 || rn == 15) .coprocessorRegister
      | .mrrc => restriction (rd == 15 || rn == 15 || rd == rn) .coprocessorRegister
      | .ldc | .stc => cpBaseBroken addr rn := by
  cases k <;> simp [cpBroken, cpBaseBroken, restriction, or_assoc]

theorem describedOfP15_mcr {req : CpReq} (hk : req.kind = .mcr) : describedOfP15 req = isControlReg req := by
  rw [describedOfP15, isControlReg, hk]
  cases req.two <;> cases req.op1 == 0 <;> cases req.cm == 0 <;> cases req.op2 == 0 <;> simp

theorem describedOfP15_mrc {req : CpReq} (hk : req.kind = .mrc) :
    describedOfP15 req = (isControlReg req || isMainId req) := by
  rw [describedOfP15, isControlReg, isMainId, hk]
  cases req.two <;> cases req.op1 == 0 <;> cases req.cm == 0 <;> cases req.op2 == 0 <;> simp

section
variable {s : State} {x : CpCase} {b : Option Fault}

/-- The operations that p15 never describes. -/
theorem testsFirst_of_other {p : RegNum} {f : Unit → Res State}
    (hexec : exec x.instr s = finish (s.checkCpOther p x.instr b >>= f)) : TestsFirst s p x b := by
  rw [State.checkCpOther, bind_assoc] at hexec
  refine ⟨_, hexec, fun hp _ => ?_⟩
  rw [if_pos hp]; rfl

theorem testsFirst_cdp (hexec : exec x.instr s = finish (s.cpData x.instr x.req)) : TestsFirst s x.req.cp x none :=
  testsFirst_of_other hexec

theorem testsFirst_mcrr {rn rd : RegNum} (hexec : exec x.instr s = finish (s.cpMoveTo2 x.instr x.req rn rd)) :
    TestsFirst s x.req.cp x (restriction (rd == 15 || rn == 15) .coprocessorRegister) :=
  testsFirst_of_other hexec

theorem testsFirst_mrrc {rn rd : RegNum} (hexec : exec x.instr s = finish (s.cpMoveFrom2 x.instr x.req rn rd)) :
    TestsFirst s x.req.cp x (restriction (rd == 15 || rn == 15 || rd == rn) .coprocessorRegister) :=
  testsFirst_of_other hexec

theorem testsFirst_ldc {rn : RegNum} {addr : CpAddressing}
    (hexec : exec x.instr s = finish (s.cpLoad x.instr x.req rn addr)) :
    TestsFirst s x.req.cp x (cpBaseBroken addr rn) :=
  testsFirst_of_other hexec

theorem testsFirst_stc {rn : RegNum} {addr : CpAddressing}
    (hexec : exec x.instr s = finish (s.cpStore x.instr x.req rn addr)) :
    TestsFirst s x.req.cp x (cpBaseBroken addr rn) :=
  testsFirst_of_other hexec

theorem testsFirst_mcr {rd : RegNum} (hk : x.req.kind = .mcr)
    (hexec : exec x.instr s = finish (s.cpMoveTo x.instr x.req rd)) :
    TestsFirst s x.req.cp x (restriction (rd == 15) .coprocessorRegister) := by
  refine ⟨_, hexec, fun hp hd => ?_⟩
  rw [describedOfP15_mcr hk] at hd
  rw [State.cpWrite, if_pos hp, hd]; rfl

theorem testsFirst_mrc {rd : RegNum} (hk : x.req.kind = .mrc)
    (hexec : exec x.instr s = finish (s.cpMoveFrom x.instr x.req rd)) : TestsFirst s x.req.cp x none := by
  refine ⟨_, hexec, fun hp hd => ?_⟩
  rw [describedOfP15_mrc hk, Bool.or_eq_false_iff] at hd
  rw [State.cpRead, if_pos hp, hd.1, hd.2]; rfl

end

theorem testsFirst_of_mem {c : Cond} {n : Bool} {rn rd cp : RegNum} {op1 : BitVec 4} {op1s op2 : BitVec 3} {cm : RegNum}
    {addr : CpAddressing} {s : State} (hc : s.passed c = true) :
    ∀ x ∈ cpCases c n rn rd cp op1 op1s op2 cm addr, TestsFirst s cp x (cpBroken x.req.kind rn rd addr) := by
  simp only [cpCases, List.forall_mem_cons, cpBroken_eq]
  exact ⟨testsFirst_cdp (exec_of_passed hc rfl), testsFirst_cdp rfl,
    testsFirst_mcr rfl (exec_of_passed hc rfl), testsFirst_mcr rfl rfl,
    testsFirst_mrc rfl (exec_of_passed hc rfl), testsFirst_mrc rfl rfl,
    testsFirst_mcrr (exec_of_passed hc rfl), testsFirst_mcrr rfl,
    testsFirst_mrrc (exec_of_passed hc rfl), testsFirst_mrrc rfl,
    testsFirst_ldc (exec_of_passed hc rfl), testsFirst_ldc rfl,
    testsFirst_stc (exec_of_passed hc rfl), testsFirst_stc rfl, List.forall_mem_nil _⟩

section
variable {s : State} {p : RegNum} {x : CpCase} {b : Option Fault}

theorem TestsFirst.traps (h : TestsFirst s p x b)
    (hno : s.cop[p.val].present = false ∨ s.cpAccepts p x.instr = false) : CpTraps x.instr s b := by
  obtain ⟨rest, hexec, -⟩ := h
  cases b with
  | none => exact hexec.trans (by rw [State.checkCp_raise hno]; rfl)
  | some f =>
    refine hexec.trans ?_
    rw [State.checkCp_broken hno]
    cases Config.restrictionsFirst x.instr <;> rfl

theorem TestsFirst.refuses (h : TestsFirst s 15 x b) (hpresent : s.cop[15].present = true)
    (haccepts : s.cpAccepts 15 x.instr = true) (hd : describedOfP15 x.req = false) :
    exec x.instr s = match b with
      | some f => .fault f
      | none => .refused .cp15Operation := by
  obtain ⟨rest, hexec, hrest⟩ := h
  cases b with
  | some f => exact hexec.trans (by rw [State.checkCp_unpredictable hpresent haccepts]; rfl)
  | none =>
    have hopen : s.checkCp 15 x.instr none = .ok () :=
      if_pos (Bool.and_eq_true_iff.mpr ⟨hpresent, haccepts⟩)
    rw [hexec, hopen]
    exact congrArg finish (hrest rfl hd)

end

/-- Settles O39: each instruction is those tests first, and they raise the exception. -/
theorem absentCoprocessorsTrap : Obligations.AbsentCoprocessorsTrap := by
  intro c n rn rd cp op1 op1s op2 cm addr s hc x hx hno
  exact (testsFirst_of_mem hc x hx).traps hno

/-! ## p15 (R282, R683) -/

theorem maskWrite_and_mask (old new mask : Word) : maskWrite old new mask &&& mask = new &&& mask := by
  refine BitVec.eq_of_getLsbD_eq fun j hj => ?_
  rw [BitVec.getLsbD_and, BitVec.getLsbD_and, maskWrite_getLsbD _ _ _ _ hj]
  cases mask.getLsbD j <;> simp

/-- The flags from the top four bits of a word, then the pc (R291). -/
theorem State.setFlagsFrom_advance {s : State} {v : Word} (hpc : s.pc.toNat + 4 < 2 ^ 32) :
    ∃ t, (s.setFlagsFrom v).advance 4 = .ok t ∧ t.cpsr &&& 0xF0000000 = v &&& 0xF0000000 ∧
      Frame s t (s.pc + 4) [] maskNZCV :=
  ⟨_, State.advance_eq hpc, maskWrite_and_mask .., rfl, SameRegs.refl s [], sameStatus_maskWrite rfl,
    ((SameSystem.refl s).setCpsr _).setPc _, .of_mem_eq rfl⟩

theorem State.cpAccepts_p15 {s : State} (hrejects : s.cop[15].rejects = []) (i : Instr) :
    s.cpAccepts 15 i = s.privileged := by
  have hnone : (s.cop[(15 : RegNum).val].rejects.any fun r => r.instr == i && some r.mode == s.mode?) = false := by
    rw [show s.cop[(15 : RegNum).val].rejects = [] from hrejects]; rfl
  rw [State.cpAccepts, hnone]; rfl

theorem yields_of_ok {i : Instr} {s : State} {body : Res State} {post : State → Prop} (hexec : exec i s = finish body)
    (hok : ∃ t, body = .ok t ∧ post t) : Yields i s post := by
  obtain ⟨t, rfl, hpost⟩ := hok
  exact ⟨t, hexec, hpost⟩

section
variable {s : State} (hpresent : s.cop[15].present = true) (haccepts : ∀ i, s.cpAccepts 15 i = true)
include hpresent haccepts

theorem checkCp_p15 (i : Instr) : s.checkCp 15 i none = .ok () :=
  if_pos (Bool.and_eq_true_iff.mpr ⟨hpresent, haccepts i⟩)

variable {c : Cond} (hs : s.Ready c 4)
include hs

theorem mcrControl_yields {rd : RegNum} (hrd : rd ≠ 15) : Yields (.mcr c 0 1 rd 15 0 0) s (fun t =>
    t.cp15c1 = s.reg rd ∧ Frame { s with cp15c1 := t.cp15c1 } t (s.pc + 4) [] 0) := by
  have hexec := exec_of_passed (i := .mcr c 0 1 rd 15 0 0) hs.1 rfl
  rw [State.cpMoveTo, beq_false_of_ne hrd, restriction_false, checkCp_p15 hpresent haccepts] at hexec
  exact ⟨_, hexec.trans (congrArg finish (State.advance_eq (s := { s with cp15c1 := s.reg rd }) hs.2)), rfl,
    State.setPc_frame { s with cp15c1 := s.reg rd } _⟩

/-- MRC of a register of p15 whose value is `v`: a register, or for pc the flags. -/
theorem mrc_p15 {cn : RegNum} {v : Word} (hread : ∀ req : CpReq, req.cp = 15 → req.two = false → req.op1 = 0 →
      req.cn = cn → req.cm = 0 → req.op2 = 0 → s.cpRead req = .ok (v, s)) (rd : RegNum) :
    exec (.mrc c 0 cn rd 15 0 0) s =
      finish ((if rd = 15 then s.setFlagsFrom v else s.setReg rd v).advance 4) := by
  rw [exec_of_passed (i := .mrc c 0 cn rd 15 0 0) hs.1 rfl, State.cpMoveFrom, checkCp_p15 hpresent haccepts,
    hread _ rfl rfl rfl rfl rfl rfl]
  rfl

theorem mrcControl (rd : RegNum) : exec (.mrc c 0 1 rd 15 0 0) s =
    finish ((if rd = 15 then s.setFlagsFrom s.cp15c1 else s.setReg rd s.cp15c1).advance 4) := by
  refine mrc_p15 hpresent haccepts hs (fun req hcp htwo hop1 hcn hcm hop2 => ?_) rd
  simp [State.cpRead, isControlReg, hcp, htwo, hop1, hcn, hcm, hop2]

theorem mrcMainId (rd : RegNum) : exec (.mrc c 0 0 rd 15 0 0) s =
    finish ((if rd = 15 then s.setFlagsFrom Config.mainId else s.setReg rd Config.mainId).advance 4) := by
  refine mrc_p15 hpresent haccepts hs (fun req hcp htwo hop1 hcn hcm hop2 => ?_) rd
  simp [State.cpRead, isControlReg, isMainId, hcp, htwo, hop1, hcn, hcm, hop2]

end

/-- Settles O40: the described operations by their values; the others by the tests that every instruction makes first. -/
theorem systemCoprocessorRegisters : Obligations.SystemCoprocessorRegisters := by
  intro c n rn rd op1 op1s op2 cm addr s hs hpresent hrejects cases flags
  have haccepts := s.cpAccepts_p15 hrejects
  refine ⟨fun hp hrd => ?registers, fun hp => ?flags, fun hp x hx hd => ?others, fun hp x hx => ?user⟩
  case registers =>
    have hok := fun i => (haccepts i).trans hp
    have hone := mrcControl hpresent hok hs rd
    have hzero := mrcMainId hpresent hok hs rd
    rw [if_neg hrd] at hone hzero
    exact ⟨mcrControl_yields hpresent hok hs hrd, yields_of_ok hone (State.setReg_advance hrd hs.2),
      yields_of_ok hzero (State.setReg_advance hrd hs.2)⟩
  case flags =>
    have hok := fun i => (haccepts i).trans hp
    refine ⟨?_, yields_of_ok (mrcControl hpresent hok hs 15) (State.setFlagsFrom_advance hs.2),
      yields_of_ok (mrcMainId hpresent hok hs 15) (State.setFlagsFrom_advance hs.2)⟩
    have hstop : s.checkCp 15 (.mcr c 0 1 15 15 0 0) (restriction true .coprocessorRegister) =
        unpredictable .coprocessorRegister := State.checkCp_unpredictable hpresent (hok _)
    rw [exec_of_passed (i := .mcr c 0 1 15 15 0 0) hs.1 rfl, State.cpMoveTo, beq_self_eq_true, hstop]
    rfl
  case others => exact (testsFirst_of_mem hs.1 x hx).refuses hpresent ((haccepts _).trans hp) hd
  case user => exact (testsFirst_of_mem hs.1 x hx).traps (.inr ((haccepts _).trans hp))

/-! ## The other coprocessors (R283, R287, R288, R291, R292) -/

section
variable {s : State} (hpc : s.pc.toNat + 4 < 2 ^ 32)
include hpc

theorem updatesCp_advance (p : RegNum) (new : CpRegs) :
    ∃ t, (s.setCpRegs p new).advance 4 = .ok t ∧ UpdatesCp s p new [] t :=
  ⟨_, State.advance_eq (s := s.setCpRegs p new) hpc, rfl, State.setPc_frame (s.setCpRegs p new) _⟩

theorem setCpRegs_setReg_advance (p : RegNum) (new : CpRegs) {rd : RegNum} (v : Word) (hrd : rd ≠ 15) :
    ∃ t, ((s.setCpRegs p new).setReg rd v).advance 4 = .ok t ∧ t.reg rd = v ∧ UpdatesCp s p new [rd] t := by
  obtain ⟨t, ht, hv, hframe⟩ := State.setReg_advance (s := s.setCpRegs p new) (v := v) hrd hpc
  have hcop : t.cop = (s.setCpRegs p new).cop := hframe.system.cop
  refine ⟨t, ht, hv, hcop, ?_⟩
  rw [hcop]
  exact hframe

theorem setCpRegs_setFlagsFrom_advance (p : RegNum) (new : CpRegs) (v : Word) :
    ∃ t, ((s.setCpRegs p new).setFlagsFrom v).advance 4 = .ok t ∧ t.cpsr &&& 0xF0000000 = v &&& 0xF0000000 ∧
      t.cop = s.cop.set p.val { s.cop[p.val] with regs := new } ∧
      Frame { s with cop := t.cop } t (s.pc + 4) [] maskNZCV := by
  obtain ⟨t, ht, hv, hframe⟩ := State.setFlagsFrom_advance (s := s.setCpRegs p new) (v := v) hpc
  have hcop : t.cop = (s.setCpRegs p new).cop := hframe.system.cop
  refine ⟨t, ht, hv, hcop, ?_⟩
  rw [hcop]
  exact hframe

/-- Two registers written, then the pc. -/
theorem setReg_setReg_advance {a b : RegNum} (v w : Word) (ha : a ≠ 15) (hb : b ≠ 15) (hne : a ≠ b) :
    ∃ t, ((s.setReg a v).setReg b w).advance 4 = .ok t ∧ t.reg a = v ∧ t.reg b = w ∧
      Frame s t (s.pc + 4) [a, b] 0 := by
  have hm : ∀ j < 5, (0 : Word).getLsbD j = false := by decide
  have hw := ((Written.refl s [a, b] 0).setReg hm (rd := a) (by simp) v).setReg hm (rd := b) (by simp) w
  have hregs := State.reg_of_setReg_setReg (t := ((s.setReg a v).setReg b w).setPc (s.pc + 4)) ha hb hne rfl
    (mode?_of_sameStatus hw.status hm)
  exact ⟨_, hw.advance_eq hpc, hregs.1, hregs.2, hw.setPc_frame _⟩

end

section
variable {s : State} {i : Instr} {req : CpReq} {rd : RegNum} (hpc : s.pc.toNat + 4 < 2 ^ 32)
  (ha : s.Accepts req.cp i)
include hpc ha

theorem mcr_yields (hexec : exec i s = finish (s.cpMoveTo i req rd)) :
    YieldsUnless (rd == 15) .coprocessorRegister i s
      (UpdatesCp s req.cp (Config.cpMcr req (s.reg rd) s.cop[req.cp.val].regs) []) := by
  have htest : s.checkCp req.cp i (restriction (rd == 15) .coprocessorRegister) =
      unpredictableIf (rd == 15) .coprocessorRegister := by
    rw [← State.checkCpOther_accepted ha, State.checkCpOther, if_neg ha.1]
    cases s.checkCp req.cp i (restriction (rd == 15) .coprocessorRegister) <;> rfl
  rw [State.cpMoveTo, State.cpWrite, if_neg ha.1, htest] at hexec
  exact yieldsUnless_of_exec hexec fun _ => updatesCp_advance hpc ..

theorem mrc_yields (hexec : exec i s = finish (s.cpMoveFrom i req rd)) : Yields i s fun t =>
    let v := Config.cpMrc req s.cop[req.cp.val].regs
    if rd = 15 then t.cpsr &&& 0xF0000000 = v.1 &&& 0xF0000000 ∧
      t.cop = s.cop.set req.cp.val { s.cop[req.cp.val] with regs := v.2 } ∧
      Frame { s with cop := t.cop } t (s.pc + 4) [] maskNZCV
    else t.reg rd = v.1 ∧ UpdatesCp s req.cp v.2 [rd] t := by
  have htest : s.checkCp req.cp i none = .ok () := if_pos (Bool.and_eq_true_iff.mpr ha.2)
  rw [State.cpMoveFrom, State.cpRead, if_neg ha.1, htest] at hexec
  refine yields_of_ok hexec ?_
  by_cases hrd : rd = 15
  · simp only [if_pos hrd]
    exact setCpRegs_setFlagsFrom_advance hpc ..
  · simp only [if_neg hrd]
    exact setCpRegs_setReg_advance hpc _ _ _ hrd

end

/-- Settles O41: the tests pass, so each form is its exchange with the coprocessor. -/
theorem coprocessorTransfersYield : Obligations.CoprocessorTransfersYield := by
  intro c rn rd cp op1 op1s op2 cm s ⟨hc, hpc⟩ w old two pick cdp mcr mrc mcrr mrrc cdpReq mcrReq mrcReq mcrrReq mrrcReq
  have hcdp : exec cdp s = finish (s.cpData cdp cdpReq) := by
    cases two with
    | false => exact exec_of_passed hc rfl
    | true => rfl
  have hmcr : exec mcr s = finish (s.cpMoveTo mcr mcrReq rd) := by
    cases two with
    | false => exact exec_of_passed hc rfl
    | true => rfl
  have hmrc : exec mrc s = finish (s.cpMoveFrom mrc mrcReq rd) := by
    cases two with
    | false => exact exec_of_passed hc rfl
    | true => rfl
  have hmcrr : exec mcrr s = finish (s.cpMoveTo2 mcrr mcrrReq rn rd) := by
    cases two with
    | false => exact exec_of_passed hc rfl
    | true => rfl
  have hmrrc : exec mrrc s = finish (s.cpMoveFrom2 mrrc mrrcReq rn rd) := by
    cases two with
    | false => exact exec_of_passed hc rfl
    | true => rfl
  refine ⟨fun ha => ?cdp, fun ha => mcr_yields hpc ha hmcr, fun ha => mrc_yields hpc ha hmrc, fun ha => ?mcrr,
    fun ha => ?mrrc⟩
  case cdp =>
    rw [State.cpData, ← restriction_false .coprocessorRegister, State.checkCpOther_accepted ha] at hcdp
    exact yields_of_ok hcdp (updatesCp_advance hpc ..)
  case mcrr =>
    rw [State.cpMoveTo2, State.checkCpOther_accepted ha] at hmcrr
    exact yieldsUnless_of_exec hmcrr fun _ => updatesCp_advance hpc ..
  case mrrc =>
    rw [State.cpMoveFrom2, State.checkCpOther_accepted ha] at hmrrc
    refine yieldsUnless_of_exec hmrrc fun hbad => ?_
    simp only [Bool.or_eq_false_iff, beq_eq_false_iff_ne] at hbad
    obtain ⟨⟨hrd, hrn⟩, hne⟩ := hbad
    exact setReg_setReg_advance hpc _ _ hrd hrn hne

end Sys2Proof.Machine
end

section
/-! Proofs. The return from an exception undoes its entry: O16. -/

namespace Sys2Proof.Machine

set_option Elab.async false

theorem and_eq_self_of_and_not {w mask : Word} (h : w &&& ~~~mask = 0) : w &&& mask = w := by
  refine BitVec.eq_of_getLsbD_eq fun j hj => ?_
  have hbit := congrArg (BitVec.getLsbD · j) h
  simp only [BitVec.getLsbD_and, BitVec.getLsbD_not, hj, decide_true, Bool.true_and] at hbit
  rw [BitVec.getLsbD_and]
  cases hw : w.getLsbD j <;> cases hm : mask.getLsbD j <;> simp_all

/-- The branch of an exception return to an address aligned for the instruction set of the status word (R675). -/
theorem State.exceptionReturn_aligned {s : State} {psr target : Word} (hvalid : psr &&& ~~~psrValid = 0)
    (hmode : (Mode.ofBits (modeField psr)).isSome = true) (hjava : psr.getLsbD 24 = false)
    (haligned : if psr.getLsbD 5 then target &&& 1 = 0 else target &&& 3 = 0) :
    s.exceptionReturn psr target = .ok (s.returned psr target) := by
  rw [State.exceptionReturn_eq, and_eq_self_of_and_not hvalid, hjava, Option.isNone_eq_false_iff.mpr hmode,
    if_neg Bool.false_ne_true, if_neg Bool.false_ne_true]
  split at haligned
  next ht => rw [if_pos ht, and_eq_self_of_and_not haligned]
  next ht => rw [if_neg ht, if_pos haligned]

section
variable {s : State} {e : Exc} {k : Fin 5} (he : e ≠ .reset) (hk : e.mode.spsrIndex = some k)
include he hk

theorem enter_needSpsr (hvalid : s.cpsr &&& ~~~psrValid = 0) : (enter e s).needSpsr = .ok s.cpsr := by
  have hsaved : (enter e s).spsr? = some s.cpsr := by
    rw [State.spsr?_of_mode (enter_mode? s he hk), hk, Option.map_some, enter_spsr s he hk, Vector.getElem_set_self,
      and_eq_self_of_and_not hvalid]
  rw [State.needSpsr, hsaved]

theorem enter_link : (enter e s).reg 14 = e.link s := by
  rw [State.reg, enter_mode? s he hk, State.regIn_congr (enter_regs s he hk) _ (by decide),
    State.regIn_setRegIn_self _ _ _ _ (by decide)]

/-- The registers of another mode are as before the entry. -/
theorem enter_regIn {m : Mode} {i : RegNum} (hm : m ≠ e.mode) (hi : i ≠ 15) :
    (enter e s).regIn (some m) i = s.regIn (some m) i := by
  have hbanked : e.mode ∉ [Mode.usr, .sys] := fun h => by
    rw [(Mode.spsrIndex_eq_none_iff e.mode).mpr (by simpa using h)] at hk
    cases hk
  have hlt : i.val < 15 := by
    have := i.isLt
    have : i.val ≠ 15 := fun h => hi (Fin.ext h)
    omega
  rw [State.regIn_congr (enter_regs s he hk) _ hi, State.regIn_setRegIn_of_bank_ne _ _ hi
    (bank_exception_ne hbanked hm.symm (by simp) hlt).symm]

/-- A return to `next`, aligned for the instruction set of `s`, from the exception that `s` entered. -/
theorem enter_returns {i : Instr} {next : Word} (hinv : s.Inv)
    (haligned : if s.thumb then next &&& 1 = 0 else next &&& 3 = 0)
    (hexec : exec i (enter e s) = finish ((enter e s).needSpsr >>= fun psr => (enter e s).exceptionReturn psr next)) :
    ∃ t, exec i (enter e s) = .next t ∧ t.cpsr = s.cpsr ∧ t.pc = next ∧ SameMemory s t ∧
      ∀ j : RegNum, s.mode? ≠ some e.mode → j ≠ 15 → t.reg j = s.reg j := by
  obtain ⟨hmode, hjava, hvalid, -, -, -⟩ := hinv
  have hgo : (enter e s).exceptionReturn s.cpsr next = .ok ((enter e s).returned s.cpsr next) :=
    State.exceptionReturn_aligned hvalid hmode hjava haligned
  have hcpsr : ((enter e s).returned s.cpsr next).cpsr = s.cpsr := and_eq_self_of_and_not hvalid
  rw [enter_needSpsr he hk hvalid] at hexec
  refine ⟨_, hexec.trans (congrArg finish hgo), hcpsr, rfl, .of_mem_eq (enter_mem e s he), fun j hne hj => ?_⟩
  obtain ⟨m, hm⟩ := Option.isSome_iff_exists.mp hmode
  have hother : m ≠ e.mode := fun h => hne (hm.trans (congrArg some h))
  have hregs : ((enter e s).returned s.cpsr next).regIn (some m) j = (enter e s).regIn (some m) j :=
    State.regIn_congr (s := enter e s) (t := (enter e s).returned s.cpsr next) rfl _ hj
  rw [State.reg, State.reg, State.mode?_congr hcpsr, hm, hregs, enter_regIn he hk hother hj]

end

theorem add_four_aligned {a : Word} (h : a &&& 3 = 0) : a + 4 &&& 3 = 0 := by
  rw [and_three_eq_zero_iff] at h ⊢
  bv_omega

/-- Settles O16: the saved status is the interrupted one, and the link leads where it was interrupted. -/
theorem returnUndoesEntry : Obligations.ReturnUndoesEntry := by
  intro s hinv
  obtain ⟨-, -, -, -, haligned, -⟩ := id hinv
  refine ⟨fun ht => enter_returns (by decide) rfl hinv ?swiAligned ?swi,
    enter_returns (by decide) rfl hinv haligned ?irq⟩
  case swiAligned =>
    rw [ht, if_neg Bool.false_ne_true] at haligned ⊢
    exact add_four_aligned haligned
  case swi =>
    have hlink : (enter .softwareInterrupt s).reg 14 = s.pc + 4 := by
      rw [enter_link (by decide) rfl, Exc.link, ht]; rfl
    rw [← hlink]
    exact exec_of_passed (State.passed_al _) rfl
  case irq =>
    have hlink : (enter .irq s).reg 14 - 4 = s.pc := by
      rw [enter_link (by decide) rfl]; exact BitVec.add_sub_cancel s.pc 4
    have hdiff : (addWithCarry ((enter .irq s).reg 14) (~~~4) true).1 = s.pc :=
      (addWithCarry_sum ..).trans ((add_not_add_bitWord ..).trans ((BitVec.sub_zero _).trans hlink))
    exact hdiff ▸ exec_of_passed (State.passed_al _) rfl

end Sys2Proof.Machine
end

section
/-! Proofs. What every meaning keeps: the relations behind O3 and O8, and the operations that the meanings share. -/

namespace Sys2Proof.Machine

set_option Elab.async false

/-! ## The relations -/

/-- The exceptions that an instruction raises. -/
def traps : List Exc := [.undefined, .softwareInterrupt, .prefetchAbort, .dataAbort]

/-- A state in which an instruction of `s` may raise an exception: only memory, the monitor, coprocessors and the
count of free values may have changed. -/
structure Kept (s u : State) : Prop where
  cpsr : u.cpsr = s.cpsr
  spsr : u.spsr = s.spsr
  regs : u.regs = s.regs
  cp15c1 : u.cp15c1 = s.cp15c1
  pc : u.pc = s.pc
  mem : s.mem.wf = true → u.mem.wf = true

/-- A state that an instruction of `s` may reach before it moves the pc: of the status bits only those that user mode
may write have changed, and what user mode may not write has changed only in another mode. -/
structure Tame (s u : State) : Prop where
  status : SameStatus s u userMask
  spsr : u.spsr = s.spsr
  cp15c1 : s.mode? = some .usr → u.cp15c1 = s.cp15c1
  banks : s.mode? = some .usr → ∀ k : Fin 30, 15 ≤ k.val → u.regs[k.val] = s.regs[k.val]
  pc : u.pc = s.pc
  mem : s.mem.wf = true → u.mem.wf = true

/-- What an instruction in user mode leaves unless it is the entry of an exception (R681, R306). -/
def Confined (s t : State) : Prop :=
  t.cpsr &&& 0x1DF = s.cpsr &&& 0x1DF ∧ t.spsr = s.spsr ∧ t.cp15c1 = s.cp15c1 ∧
    ∀ k : Fin 30, 15 ≤ k.val → t.regs[k.val] = s.regs[k.val]

/-- An end of an instruction that meets both claims; a Thumb instruction needs Thumb state to keep the pc aligned. -/
def Good (thumb : Bool) (s t : State) : Prop :=
  (s.Inv → (thumb = true → s.thumb = true) → t.Inv) ∧ (s.mode? = some .usr → Confined s t)

/-- `r` completes only with `post`, and raises only exceptions of an instruction, in a state kept from `s`. -/
def Runs {α : Type} (s : State) (r : Res α) (post : α → Prop) : Prop :=
  match r with
  | .ok a => post a
  | .error (.raise e u) => e ∈ traps ∧ Kept s u
  | .error (.fault _) | .error (.refused _) => True

/-! ## Rules of `Runs` -/

theorem Kept.refl (s : State) : Kept s s := ⟨rfl, rfl, rfl, rfl, rfl, id⟩

section
variable {α β : Type} {s u : State} {p : α → Prop} {q : β → Prop}

theorem Kept.trans {t : State} (h : Kept s u) (h' : Kept u t) : Kept s t :=
  ⟨h'.cpsr.trans h.cpsr, h'.spsr.trans h.spsr, h'.regs.trans h.regs, h'.cp15c1.trans h.cp15c1, h'.pc.trans h.pc,
    h'.mem ∘ h.mem⟩

theorem Runs.bind {x : Res α} {f : α → Res β} (hx : Runs s x p) (hf : ∀ a, p a → Runs s (f a) q) :
    Runs s (x >>= f) q := by
  match x, hx with
  | .ok a, hx => exact hf a hx
  | .error (.raise _ _), hx => exact hx
  | .error (.fault _), _ => trivial
  | .error (.refused _), _ => trivial

theorem Runs.weaken {r : Res α} {p' : α → Prop} (hr : Runs s r p) (h : ∀ a, p a → p' a) : Runs s r p' := by
  match r, hr with
  | .ok a, hr => exact h a hr
  | .error (.raise _ _), hr => exact hr
  | .error (.fault _), _ => trivial
  | .error (.refused _), _ => trivial

theorem Runs.any {r : Res α} (hr : Runs s r p) : Runs s r fun _ => True := hr.weaken fun _ _ => trivial

theorem Runs.andThen {x : Res α} {r : Res β} (hx : Runs s x p) (hr : Runs s r q) : Runs s (x >>= fun _ => r) q :=
  hx.bind fun _ _ => hr

theorem Runs.ite {c : Prop} [Decidable c] {x y : Res α} (hx : c → Runs s x p) (hy : ¬ c → Runs s y p) :
    Runs s (if c then x else y) p := by
  split
  next h => exact hx h
  next h => exact hy h

theorem runs_raise {e : Exc} (he : e ∈ traps) : Runs s (raise e s : Res α) p := ⟨he, .refl s⟩

theorem runs_dataAbort (h : Kept s u) : Runs s (raise .dataAbort u : Res α) p := ⟨by decide, h⟩

theorem runs_unpredictableIf (b : Bool) (f : Fault) : Runs s (unpredictableIf b f) fun _ => b = false := by
  cases b with
  | false => rfl
  | true => trivial

end

/-! ## Alignment (R43, R103) -/

/-- A pc aligned for the instruction set (R43). -/
def PcAligned (thumb : Bool) (pc : Word) : Prop := if thumb then pc &&& 1 = 0 else pc &&& 3 = 0

theorem pcAligned_true (a : Word) : PcAligned true a ↔ a.toNat % 2 = 0 := and_one_eq_zero_iff a

theorem pcAligned_false (a : Word) : PcAligned false a ↔ a.toNat % 4 = 0 := and_three_eq_zero_iff a

theorem PcAligned.even {b : Bool} {a : Word} (h : PcAligned b a) : a.toNat % 2 = 0 := by
  cases b with
  | true => exact (pcAligned_true a).mp h
  | false =>
    have := (pcAligned_false a).mp h
    omega

theorem PcAligned.add_four {b : Bool} {a : Word} (h : PcAligned b a) : PcAligned b (a + 4) := by
  cases b with
  | true =>
    rw [pcAligned_true] at h ⊢
    bv_omega
  | false =>
    rw [pcAligned_false] at h ⊢
    bv_omega

theorem PcAligned.add_two {a : Word} (h : PcAligned true a) : PcAligned true (a + 2) := by
  rw [pcAligned_true] at h ⊢
  bv_omega

theorem pcAligned_even (a : Word) : PcAligned true (a &&& 0xFFFFFFFE) := by
  rw [PcAligned, if_pos rfl, BitVec.and_assoc]
  exact BitVec.and_zero

theorem pcAligned_wordBase (a : Word) : PcAligned false (wordBase a) := by
  rw [PcAligned, if_neg Bool.false_ne_true, wordBase, BitVec.and_assoc]
  exact BitVec.and_zero

/-- The target of an exchange, in the instruction set that its bit 0 selects (R24). -/
theorem pcAligned_exchange {a : Word} (h : a &&& 3 ≠ 2) : PcAligned (a.getLsbD 0) (a &&& 0xFFFFFFFE) := by
  cases hbit : a.getLsbD 0 with
  | true => exact pcAligned_even a
  | false =>
    have hmod : a.toNat % 4 ≠ 2 := fun e => h (BitVec.eq_of_toNat_eq ((toNat_and_three a).trans e))
    have heven : a.toNat % 2 = 0 := by
      rw [BitVec.getLsbD, Nat.testBit_zero] at hbit
      simpa using hbit
    have hself : a &&& 0xFFFFFFFE = a := and_eq_self_of_and_not ((and_one_eq_zero_iff a).mpr heven)
    rw [hself, pcAligned_false]
    omega

/-! ## Status bits -/

/-- What lies outside a mask is as before. -/
theorem and_of_and_not {w v mask keep : Word} (h : w &&& ~~~mask = v &&& ~~~mask) (hkeep : ~~~mask &&& keep = keep) :
    w &&& keep = v &&& keep := by
  rw [← hkeep, ← BitVec.and_assoc, h, BitVec.and_assoc]

theorem maskWrite_and_not {new mask big : Word} (w : Word)
    (h : ∀ j < 32, mask.getLsbD j = true → big.getLsbD j = true) :
    maskWrite w new mask &&& ~~~big = w &&& ~~~big := by
  refine BitVec.eq_of_getLsbD_eq fun j hj => ?_
  rw [BitVec.getLsbD_and, BitVec.getLsbD_and, BitVec.getLsbD_not, maskWrite_getLsbD _ _ _ _ hj]
  cases hm : mask.getLsbD j with
  | true => rw [h j hj hm]; simp
  | false => simp

theorem setBit_self (w : Word) {i : Nat} (hi : i < 32) : setBit w i (w.getLsbD i) = w := by
  refine BitVec.eq_of_getLsbD_eq fun j hj => ?_
  rw [setBit_getLsbD _ _ _ _ hi hj]
  split
  next h => rw [h]
  next h => rfl

/-- The T bit and what user mode may write of the status register. -/
def tameMask : Word := 0xF80F0220

/-- A status register of the invariant with only those bits written is one of the invariant. -/
theorem status_kept {w v : Word} (h : w &&& ~~~tameMask = v &&& ~~~tameMask) :
    modeField w = modeField v ∧ w.getLsbD 24 = v.getLsbD 24 ∧ w &&& ~~~psrValid = v &&& ~~~psrValid ∧
      w &&& 0x1DF = v &&& 0x1DF :=
  ⟨modeField_of_and_not h (by decide), getLsbD_of_and_not h (by decide) (by decide), and_of_and_not h (by decide),
    and_of_and_not h (by decide)⟩

theorem and_not_tameMask {w v : Word} (h : w &&& ~~~userMask = v &&& ~~~userMask) :
    w &&& ~~~tameMask = v &&& ~~~tameMask :=
  and_of_and_not h (by decide)

/-! ## Modes -/

theorem not_usr_of_privileged {s : State} (h : s.privileged = true) : s.mode? ≠ some .usr := fun hm =>
  (State.privileged_iff hm).mp h rfl

theorem not_usr_of_spsrIndex {s : State} (h : s.spsrIndex?.isNone = false) : s.mode? ≠ some .usr := fun hm => by
  rw [State.spsrIndex?_of_mode hm] at h
  cases h

theorem bank_usr_lt : ∀ (r : RegNum) (k : Fin 30), bank (some .usr) r = some k → k.val < 15 := by decide

/-! ## Writes before the pc moves -/

section
variable {s u : State}

theorem Kept.tame (h : Kept s u) : Tame s u :=
  ⟨congrArg (· &&& ~~~userMask) h.cpsr, h.spsr, fun _ => h.cp15c1, fun _ _ _ => by rw [h.regs], h.pc, h.mem⟩

theorem Tame.refl (s : State) : Tame s s := (Kept.refl s).tame

section
variable (h : Tame s u)
include h

theorem Tame.mode? : u.mode? = s.mode? := mode?_of_sameStatus h.status (by decide)

theorem Tame.thumb : u.thumb = s.thumb := getLsbD_of_and_not h.status (by decide) (by decide)

theorem Tame.setCpsr {w : Word} (hw : w &&& ~~~userMask = u.cpsr &&& ~~~userMask) : Tame s (u.setCpsr w) :=
  ⟨hw.trans h.status, h.spsr, h.cp15c1, h.banks, h.pc, h.mem⟩

theorem Tame.setRegIn (r : RegNum) (v : Word) : Tame s (u.setRegIn s.mode? r v) where
  status := by rw [SameStatus, u.setRegIn_cpsr]; exact h.status
  spsr := (u.setRegIn_spsr ..).trans h.spsr
  cp15c1 hm := (u.setRegIn_cp15c1 ..).trans (h.cp15c1 hm)
  banks hm k hk := by
    rw [hm, u.setRegIn_regs_ne _ _ _ k fun e => absurd (bank_usr_lt r k e) (by omega), h.banks hm k hk]
  pc := (u.setRegIn_pc ..).trans h.pc
  mem hw := by rw [u.setRegIn_mem]; exact h.mem hw

theorem Tame.setReg (r : RegNum) (v : Word) : Tame s (u.setReg r v) := by
  rw [State.setReg_eq, h.mode?]
  exact h.setRegIn r v

theorem Tame.setLreg (r : LowReg) (v : Word) : Tame s (u.setLreg r v) := h.setReg (low r) v

theorem Tame.setRegs (rs : List RegNum) (vs : List Word) : Tame s (u.setRegs s.mode? rs vs) := by
  induction rs generalizing u vs with
  | nil => exact h
  | cons r rs ih =>
    cases vs with
    | nil => exact h
    | cons v vs => exact ih (h.setRegIn r v) vs

theorem Tame.writeBase (rn : RegNum) (a : Address) : Tame s (u.writeBase rn a) := by
  unfold State.writeBase
  split
  · exact h.setReg rn _
  · exact h

theorem Tame.writeBlockBase (w up : Bool) (rn : RegNum) (base : Word) (n : Nat) :
    Tame s (u.writeBlockBase w up rn base n) := by
  unfold State.writeBlockBase
  split
  · exact h.setReg rn _
  · exact h

theorem Tame.openMonitor : Tame s u.openMonitor := ⟨h.status, h.spsr, h.cp15c1, h.banks, h.pc, h.mem⟩

theorem Tame.drawBit : Tame s u.drawBit.2 := ⟨h.status, h.spsr, h.cp15c1, h.banks, h.pc, h.mem⟩

theorem Tame.setCpRegs (p : RegNum) (r : CpRegs) : Tame s (u.setCpRegs p r) :=
  ⟨h.status, h.spsr, h.cp15c1, h.banks, h.pc, h.mem⟩

theorem Tame.markExclusive (a : Word) : Tame s (u.markExclusive a) := by
  unfold State.markExclusive
  split <;> exact ⟨h.status, h.spsr, h.cp15c1, h.banks, h.pc, h.mem⟩

theorem Tame.setNZ (r : Word) : Tame s (u.setNZ r) := h.setCpsr (psrNZ_and_not _ _ (by decide) (by decide))

theorem Tame.setNZC (r : Word) (c : Bool) : Tame s (u.setNZC r c) := (h.setNZ r).setCpsr
  (setBit_and_not _ _ (by decide) (by decide))

theorem Tame.setNZCV (r : Word) (c v : Bool) : Tame s (u.setNZCV r c v) := (h.setNZC r c).setCpsr
  (setBit_and_not _ _ (by decide) (by decide))

theorem Tame.setLongFlags (r : BitVec 64) (c v : Bool) : Tame s (u.setLongFlags r c v) := by
  refine h.setCpsr ?_
  rw [setBit_and_not _ _ (by decide) (by decide), setBit_and_not _ _ (by decide) (by decide),
    setBit_and_not _ _ (by decide) (by decide), setBit_and_not _ _ (by decide) (by decide)]

theorem Tame.orQ (b : Bool) : Tame s (u.orQ b) := by
  cases b with
  | false => exact h
  | true => exact h.setCpsr (setBit_and_not _ _ (by decide) (by decide))

theorem Tame.setGe (g : BitVec 4) : Tame s (u.setGe g) := h.setCpsr (maskWrite_and_not _ (by decide))

theorem Tame.setFlagsFrom (v : Word) : Tame s (u.setFlagsFrom v) := h.setCpsr (maskWrite_and_not _ (by decide))

theorem Tame.setEndian (e : Bool) : Tame s (u.setEndian e) := h.setCpsr (setBit_and_not _ _ (by decide) (by decide))

end

theorem kept_isExclusive (s : State) (a : Word) : Kept s (s.isExclusive a).2 := by
  obtain ⟨-, k, hk⟩ := s.isExclusive_spec a
  rw [hk]
  exact ⟨s.clearExclusive_cpsr a, s.clearExclusive_spsr a, s.clearExclusive_regs a, s.clearExclusive_cp15c1 a,
    s.clearExclusive_pc a, fun h => by rw [s.clearExclusive_mem a]; exact h⟩

theorem kept_drawWord (s : State) : Kept s s.drawWord.2 := ⟨rfl, rfl, rfl, rfl, rfl, id⟩

theorem tame_regs {s : State} {regs : Vector Word 30}
    (h : s.mode? = some .usr → ∀ k : Fin 30, 15 ≤ k.val → regs[k.val] = s.regs[k.val]) :
    Tame s { s with regs := regs } :=
  ⟨rfl, rfl, fun _ => rfl, h, rfl, id⟩

end

/-! ## Ends -/

/-- An end in a mode other than user mode. -/
theorem good_of_not_usr {s t : State} {th : Bool} (hm : s.mode? ≠ some .usr)
    (hinv : s.Inv → (th = true → s.thumb = true) → t.Inv) : Good th s t :=
  ⟨hinv, fun h => absurd h hm⟩

section
variable {s u : State} {th : Bool} (h : Tame s u)
include h

/-- The pc moved and T written. -/
theorem Tame.exchanged {b : Bool} {p : Word} (hp : s.Inv → (th = true → s.thumb = true) → PcAligned b p) :
    Good th s ((u.setCpsr (setBit u.cpsr 5 b)).setPc p) := by
  have hbit : setBit u.cpsr 5 b &&& ~~~tameMask = s.cpsr &&& ~~~tameMask :=
    (setBit_and_not _ _ (by decide) (by decide)).trans (and_not_tameMask h.status)
  obtain ⟨hmode, hjava, hvalid, hmasks⟩ := status_kept hbit
  have ht : ((u.setCpsr (setBit u.cpsr 5 b)).setPc p).thumb = b :=
    (setBit_getLsbD _ _ _ _ (by decide) (by decide)).trans (if_pos rfl)
  refine ⟨fun hinv hth => ?_, fun hm => ⟨hmasks, h.spsr, h.cp15c1 hm, h.banks hm⟩⟩
  have haligned := hp hinv hth
  obtain ⟨hlisted, hj, hv, hspsr, -, hmem⟩ := hinv
  refine ⟨(congrArg (Option.isSome ∘ Mode.ofBits) hmode).trans hlisted, hjava.trans hj, hvalid.trans hv, fun k => ?_,
    ?_, h.mem hmem⟩
  · rw [State.setPc_spsr, State.setCpsr_spsr, h.spsr]
    exact hspsr k
  · rw [ht]
    exact haligned

/-- The pc moved in the same instruction set. -/
theorem Tame.moved {p : Word} (hp : s.Inv → (th = true → s.thumb = true) → PcAligned s.thumb p) :
    Good th s (u.setPc p) := by
  have hself : u.setCpsr (setBit u.cpsr 5 s.thumb) = u := by
    rw [← h.thumb, State.thumb, setBit_self _ (by decide)]; rfl
  have hgood := h.exchanged hp
  rwa [hself] at hgood

theorem Tame.advance_four : Runs s (u.advance 4) (Good th s) :=
  .ite (fun _ => trivial) fun _ => h.moved fun hinv _ => by
    rw [h.pc]
    exact PcAligned.add_four hinv.2.2.2.2.1

theorem Tame.advance_two : Runs s (u.advance 2) (Good true s) :=
  .ite (fun _ => trivial) fun _ => h.moved fun hinv hth => by
    have ht := hth rfl
    have hpc : PcAligned s.thumb s.pc := hinv.2.2.2.2.1
    rw [ht] at hpc ⊢
    rw [h.pc]
    exact hpc.add_two

theorem Tame.branchTo (a : Word) : Runs s (u.branchTo a) (Good th s) :=
  .ite (fun ht => h.moved fun _ _ => by rw [← h.thumb, ht]; exact pcAligned_even a) fun ht =>
    .ite (fun ha => h.moved fun _ _ => by rw [← h.thumb, eq_false_of_ne_true ht]; exact ha) fun _ => trivial

theorem Tame.bxWritePc (a : Word) : Runs s (u.bxWritePc a) (Good th s) :=
  .ite (fun _ => trivial) fun ha => h.exchanged fun _ _ => pcAligned_exchange ha

theorem Tame.toArm (a : Word) : Good th s (u.toArm a) := h.exchanged fun _ _ => pcAligned_wordBase a

theorem Tame.returned (hm : s.mode? ≠ some .usr) {psr p : Word}
    (hlisted : ¬ (Mode.ofBits (modeField (psr &&& psrValid))).isNone = true)
    (hjava : ¬ (psr &&& psrValid).getLsbD 24 = true) (hp : PcAligned ((psr &&& psrValid).getLsbD 5) p) :
    Good th s (u.returned psr p) := by
  refine ⟨fun hinv _ => ?_, fun h => absurd h hm⟩
  obtain ⟨-, -, -, hspsr, -, hmem⟩ := hinv
  refine ⟨Option.isSome_iff_ne_none.mpr fun h => hlisted (Option.isNone_iff_eq_none.mpr h), eq_false_of_ne_true hjava,
    ?_, fun k => ?_, hp, h.mem hmem⟩
  · rw [State.returned, State.setPc_cpsr, State.setCpsr_cpsr, BitVec.and_assoc]
    exact BitVec.and_zero
  · rw [State.returned, State.setPc_spsr, State.setCpsr_spsr, State.openMonitor_spsr, h.spsr]
    exact hspsr k

theorem Tame.exceptionReturn (hm : s.mode? ≠ some .usr) (psr target : Word) :
    Runs s (u.exceptionReturn psr target) (Good th s) := by
  rw [State.exceptionReturn_eq]
  exact .ite (fun _ => trivial) fun hlisted => .ite (fun _ => trivial) fun hjava =>
    .ite (fun ht => h.returned hm hlisted hjava (by rw [ht]; exact pcAligned_even target)) fun ht =>
      .ite (fun ha => h.returned hm hlisted hjava (by rw [eq_false_of_ne_true ht]; exact ha)) fun _ => trivial

end

/-! ## Shared operations -/

section
variable {s u : State}

theorem runs_needSpsr (s : State) : Runs s s.needSpsr fun _ => s.mode? ≠ some .usr := by
  unfold State.needSpsr
  split
  next w h => exact fun hm => by rw [State.spsr?_of_mode hm] at h; cases h
  next => trivial

theorem runs_memRead (s : State) (a : Word) (n : Nat) (p : Bool) : Runs s (s.memRead a n p) fun _ => True :=
  .ite (fun _ => trivial) fun _ => .ite (fun _ => runs_dataAbort (.refl s)) fun _ => trivial

theorem runs_loadWord (s : State) (a : Word) (p : Bool) : Runs s (s.loadWord a p) fun _ => True :=
  .ite (fun _ => runs_memRead ..) fun _ => .ite (fun _ => runs_dataAbort (.refl s)) fun _ =>
    .ite (fun _ => runs_memRead ..) fun _ => (runs_memRead s _ 4 p).bind fun _ _ => trivial

theorem runs_loadHalf (s : State) (a : Word) (p : Bool) : Runs s (s.loadHalf a p) fun _ => True :=
  .ite (fun _ => runs_memRead ..) fun _ => .ite (fun _ => runs_dataAbort (.refl s)) fun _ =>
    .ite (fun _ => runs_memRead ..) fun _ => trivial

theorem runs_readWords (s : State) (a : Word) (n : Nat) : Runs s (s.readWords a n) fun _ => True := by
  induction n generalizing a with
  | zero => trivial
  | succ n ih =>
    rw [State.readWords]
    exact (runs_memRead ..).bind fun _ _ => (ih _).bind fun _ _ => trivial

section
variable (h : Kept s u)
include h

theorem Kept.memWrite (a : Word) (n : Nat) (v : Word) (p : Bool) : Runs s (u.memWrite a n v p) (Kept s) :=
  .ite (fun _ => trivial) fun _ => .ite (fun _ => runs_dataAbort h) fun _ => by
    refine h.trans ?_
    have hwf := u.setBytes_wf a (unpackData u.bigEndian v n)
    rw [u.setBytes_eq] at hwf ⊢
    exact ⟨rfl, rfl, rfl, rfl, rfl, hwf⟩

theorem Kept.writeWords (a : Word) (vs : List Word) : Runs s (u.writeWords a vs) (Kept s) := by
  induction vs generalizing u a with
  | nil => exact h
  | cons v vs ih => exact (h.memWrite ..).bind fun _ hk => ih hk _

end

theorem runs_storeWord (s : State) (a v : Word) (p : Bool) : Runs s (s.storeWord a v p) (Kept s) :=
  .ite (fun _ => (Kept.refl s).memWrite ..) fun _ => .ite (fun _ => runs_dataAbort (.refl s)) fun _ =>
    .ite (fun _ => (Kept.refl s).memWrite ..) fun _ => (Kept.refl s).memWrite ..

theorem runs_storeHalf (s : State) (a v : Word) (p : Bool) : Runs s (s.storeHalf a v p) (Kept s) :=
  .ite (fun _ => (Kept.refl s).memWrite ..) fun _ => .ite (fun _ => runs_dataAbort (.refl s)) fun _ =>
    .ite (fun _ => (Kept.refl s).memWrite ..) fun _ => trivial

theorem runs_checkDouble (s : State) (a : Word) : Runs s (s.checkDouble a) fun _ => True :=
  .ite (fun _ => trivial) fun _ =>
    .ite (fun _ => .ite (fun _ => trivial) fun _ => .ite (fun _ => runs_dataAbort (.refl s)) fun _ => trivial) fun _ =>
      .ite (fun _ => runs_dataAbort (.refl s)) fun _ => trivial

theorem runs_checkExclusive (s : State) (a : Word) : Runs s (s.checkExclusive a) fun _ => True :=
  .ite (fun _ => trivial) fun _ => .ite (fun _ => runs_dataAbort (.refl s)) fun _ => trivial

theorem runs_checkBlock (s : State) (a : Word) (n : Nat) : Runs s (s.checkBlock a n) fun _ => True :=
  .andThen (p := fun _ => True) (.ite (fun _ => runs_dataAbort (.refl s)) fun _ => trivial)
    (runs_unpredictableIf ..).any

theorem runs_loadBlock (s : State) (p u : Bool) (rn : RegNum) (n : Nat) : Runs s (s.loadBlock p u rn n) fun _ => True :=
  (runs_checkBlock ..).andThen (runs_readWords ..)

theorem runs_checkTransfer (s : State) (wb : Bool) (rn rd : RegNum) (rm : Option RegNum) (p : Bool) :
    Runs s (checkTransfer wb rn rd rm p) fun _ => True :=
  (runs_unpredictableIf ..).andThen ((runs_unpredictableIf ..).andThen ((runs_unpredictableIf ..).andThen
    ((runs_unpredictableIf ..).andThen (runs_unpredictableIf ..).any)))

end

end Sys2Proof.Machine
end

section
/-! Proofs. What the meanings keep, by the operation that ends them: for O3 and O8. -/

namespace Sys2Proof.Machine

set_option Elab.async false

section
variable {s : State} {th : Bool}

/-! ## What comes before the end -/

theorem runs_conditional (c : Cond) {r : Res State} (hr : Runs s r (Good th s)) :
    Runs s (s.conditional c r) (Good th s) :=
  .ite (fun _ => hr) fun _ => (Tame.refl s).advance_four

theorem runs_checkRegisterShift (op : Operand2) (regs : List RegNum) :
    Runs s (checkRegisterShift op regs) fun _ => True := by
  cases op with
  | imm op => trivial
  | shiftImm op => trivial
  | shiftReg op => exact (runs_unpredictableIf ..).any

theorem runs_checkMul (regs : List RegNum) (overlap : Bool) : Runs s (checkMul regs overlap) fun _ => True :=
  (runs_unpredictableIf ..).andThen (runs_unpredictableIf ..).any

theorem runs_checkList (list : BitVec 16) (rn : RegNum) : Runs s (checkList list rn) fun _ => True :=
  (runs_unpredictableIf ..).andThen (runs_unpredictableIf ..).any

theorem runs_checkDoubleword (idx : Indexing) (rn rd : RegNum) (off : HalfOffset) :
    Runs s (checkDoubleword idx rn rd off) fun _ => True :=
  (runs_unpredictableIf ..).andThen ((runs_unpredictableIf ..).andThen ((runs_unpredictableIf ..).andThen
    (runs_checkTransfer s ..)))

theorem runs_msrOperand (s : State) (op : MsrOperand) : Runs s (s.msrOperand op) fun _ => True := by
  cases op with
  | imm op => trivial
  | reg rm => exact .ite (fun _ => trivial) fun _ => trivial

theorem Tame.ite {c : Prop} [Decidable c] {u v : State} (hu : Tame s u) (hv : Tame s v) :
    Tame s (if c then u else v) := by
  split
  · exact hu
  · exact hv

theorem Tame.setRegIn_of_not_usr {u : State} (hm : s.mode? ≠ some .usr) (h : Tame s u) (m : Option Mode) (r : RegNum)
    (v : Word) : Tame s (u.setRegIn m r v) where
  status := by rw [SameStatus, u.setRegIn_cpsr]; exact h.status
  spsr := (u.setRegIn_spsr ..).trans h.spsr
  cp15c1 hu := absurd hu hm
  banks hu := absurd hu hm
  pc := (u.setRegIn_pc ..).trans h.pc
  mem hw := by rw [u.setRegIn_mem]; exact h.mem hw

theorem tame_setRegs_of_not_usr (hm : s.mode? ≠ some .usr) (m : Option Mode) (rs : List RegNum) (vs : List Word) :
    Tame s (s.setRegs m rs vs) := by
  rw [s.setRegs_only_regs m rs vs]
  exact tame_regs fun hu => absurd hu hm

/-! ## Data processing (R221 to R237) -/

theorem runs_dpWrite (rd : RegNum) (sf : Bool) (result : Word) {flags : State → State}
    (hflags : ∀ u, Tame s u → Tame s (flags u)) : Runs s (s.dpWrite rd sf result flags) (Good th s) :=
  .ite (fun _ => .ite (fun _ => (runs_needSpsr s).bind fun _ hm => (Tame.refl s).exceptionReturn hm _ _)
      fun _ => (Tame.refl s).branchTo _)
    fun _ => (Tame.ite (hflags _ ((Tame.refl s).setReg ..)) ((Tame.refl s).setReg ..)).advance_four

theorem runs_dpLogical (c : Cond) (f : Word → Word → Word) (sf : Bool) (rn rd : RegNum) (op : Operand2) :
    Runs s (s.conditional c (s.dpLogical f sf rn rd op)) (Good th s) :=
  runs_conditional c ((runs_checkRegisterShift ..).andThen (runs_dpWrite rd sf _ fun _ h => h.setNZC ..))

theorem runs_dpMove (c : Cond) (f : Word → Word) (sf : Bool) (rd : RegNum) (op : Operand2) :
    Runs s (s.conditional c (s.dpMove f sf rd op)) (Good th s) :=
  runs_conditional c ((runs_checkRegisterShift ..).andThen (runs_dpWrite rd sf _ fun _ h => h.setNZC ..))

theorem runs_dpArith (c : Cond) (f : Word → Word → Word × Bool × Bool) (sf : Bool) (rn rd : RegNum) (op : Operand2) :
    Runs s (s.conditional c (s.dpArith f sf rn rd op)) (Good th s) :=
  runs_conditional c ((runs_checkRegisterShift ..).andThen (runs_dpWrite rd sf _ fun _ h => h.setNZCV ..))

theorem runs_dpTest (c : Cond) (f : Word → Word → Word) (rn : RegNum) (op : Operand2) :
    Runs s (s.conditional c (s.dpTest f rn op)) (Good th s) :=
  runs_conditional c ((runs_checkRegisterShift ..).andThen ((Tame.refl s).setNZC ..).advance_four)

theorem runs_dpCompare (c : Cond) (f : Word → Word → Word × Bool × Bool) (rn : RegNum) (op : Operand2) :
    Runs s (s.conditional c (s.dpCompare f rn op)) (Good th s) :=
  runs_conditional c ((runs_checkRegisterShift ..).andThen ((Tame.refl s).setNZCV ..).advance_four)

/-! ## Multiplies and media (R390 to R509) -/

theorem tame_writePair (rdHi rdLo : RegNum) (r : BitVec 64) : Tame s (s.writePair rdHi rdLo r) :=
  ((Tame.refl s).setReg ..).setReg ..

theorem tame_writeMul (sf : Bool) (rd : RegNum) (r : Word) : Tame s (s.writeMul sf rd r) :=
  .ite (((Tame.refl s).setReg ..).drawBit.setNZC ..) ((Tame.refl s).setReg ..)

theorem tame_writeLong (sf : Bool) (rdHi rdLo : RegNum) (r : BitVec 64) : Tame s (s.writeLong sf rdHi rdLo r) :=
  .ite ((tame_writePair rdHi rdLo r).drawBit.drawBit.setLongFlags ..) (tame_writePair rdHi rdLo r)

theorem runs_checkedMul (c : Cond) (regs : List RegNum) (overlap : Bool) {u : State} (h : Tame s u) :
    Runs s (s.conditional c (checkMul regs overlap >>= fun _ => u.advance 4)) (Good th s) :=
  runs_conditional c ((runs_checkMul ..).andThen h.advance_four)

theorem runs_checked (c : Cond) (b : Bool) (f : Fault) {u : State} (h : Tame s u) :
    Runs s (s.conditional c (unpredictableIf b f >>= fun _ => u.advance 4)) (Good th s) :=
  runs_conditional c ((runs_unpredictableIf ..).andThen h.advance_four)

theorem runs_parallelSat (c : Cond) (op : LaneOp) (signed : Bool) (rn rd rm : RegNum) :
    Runs s (s.conditional c (s.parallelSat op signed rn rd rm)) (Good th s) :=
  runs_checked c _ _ (((Tame.refl s).setReg ..).orQ _)

theorem runs_parallelMod (c : Cond) (op : LaneOp) (signed : Bool) (rn rd rm : RegNum) :
    Runs s (s.conditional c (s.parallelMod op signed rn rd rm)) (Good th s) :=
  runs_checked c _ _ (((Tame.refl s).setReg ..).setGe _)

theorem runs_parallelHalf (c : Cond) (op : LaneOp) (signed : Bool) (rn rd rm : RegNum) :
    Runs s (s.conditional c (s.parallelHalf op signed rn rd rm)) (Good th s) :=
  runs_checked c _ _ ((Tame.refl s).setReg ..)

/-! ## Loads and stores (R321 to R360) -/

theorem Tame.endLoad {u : State} (h : Tame s u) (rn rd : RegNum) (a : Address) (v : Word) :
    Runs s (u.endLoad rn rd a v) (Good th s) := ((h.writeBase rn a).setReg rd v).advance_four

theorem Tame.endStore {u : State} (h : Tame s u) (rn : RegNum) (a : Address) :
    Runs s (u.endStore rn a) (Good th s) := (h.openMonitor.writeBase rn a).advance_four

theorem runs_load (c : Cond) (wb : Bool) (rn rd : RegNum) (rm : Option RegNum) (p : Bool) (a : Address)
    (f : Word → Word) {ld : Res Word} (hld : Runs s ld fun _ => True) :
    Runs s (s.conditional c (checkTransfer wb rn rd rm p >>= fun _ => ld >>= fun v => s.endLoad rn rd a (f v)))
      (Good th s) :=
  runs_conditional c ((runs_checkTransfer s ..).andThen (hld.bind fun _ _ => (Tame.refl s).endLoad ..))

theorem runs_store (c : Cond) (wb : Bool) (rn rd : RegNum) (rm : Option RegNum) (p : Bool) (a : Address)
    {st : Res State} (hst : Runs s st (Kept s)) :
    Runs s (s.conditional c (checkTransfer wb rn rd rm p >>= fun _ => st >>= fun u => u.endStore rn a)) (Good th s) :=
  runs_conditional c ((runs_checkTransfer s ..).andThen (hst.bind fun _ h => h.tame.endStore ..))

theorem runs_ldr (c : Cond) (wb : Bool) (rn rd : RegNum) (rm : Option RegNum) (a : Address) (p : Bool) :
    Runs s (s.conditional c (checkTransfer wb rn rd rm true >>= fun _ => s.loadWord a.addr p >>= fun v =>
      if rd = 15 then (s.writeBase rn a).loadWritePc v else s.endLoad rn rd a v)) (Good th s) :=
  runs_conditional c ((runs_checkTransfer s ..).andThen ((runs_loadWord ..).bind fun _ _ =>
    .ite (fun _ => ((Tame.refl s).writeBase rn a).bxWritePc _) fun _ => (Tame.refl s).endLoad ..))

theorem runs_ldrd (c : Cond) (idx : Indexing) (rn rd : RegNum) (off : HalfOffset) (a : Address) :
    Runs s (s.conditional c (do
      checkDoubleword idx rn rd off
      s.checkDouble a.addr
      checkWrap a.addr 2
      let v0 ← s.memRead a.addr 4 s.privileged
      let v1 ← s.memRead (a.addr + 4) 4 s.privileged
      (((s.writeBase rn a).setReg rd v0).setReg (nextReg rd) v1).advance 4)) (Good th s) :=
  runs_conditional c ((runs_checkDoubleword ..).andThen ((runs_checkDouble ..).andThen
    ((runs_unpredictableIf ..).andThen ((runs_memRead ..).bind fun _ _ => (runs_memRead ..).bind fun _ _ =>
      ((((Tame.refl s).writeBase rn a).setReg ..).setReg ..).advance_four))))

theorem runs_strd (c : Cond) (idx : Indexing) (rn rd : RegNum) (off : HalfOffset) (a : Address) :
    Runs s (s.conditional c (do
      checkDoubleword idx rn rd off
      s.checkDouble a.addr
      checkWrap a.addr 2
      let s1 ← s.memWrite a.addr 4 (s.reg rd) s.privileged
      let s2 ← s1.memWrite (a.addr + 4) 4 (s.reg (nextReg rd)) s.privileged
      s2.endStore rn a)) (Good th s) :=
  runs_conditional c ((runs_checkDoubleword ..).andThen ((runs_checkDouble ..).andThen
    ((runs_unpredictableIf ..).andThen (((Kept.refl s).memWrite ..).bind fun _ h1 => (h1.memWrite ..).bind fun _ h2 =>
      h2.tame.endStore ..))))

theorem runs_ldrex (c : Cond) (b : Bool) (rn rd : RegNum) :
    Runs s (s.conditional c (do
      unpredictableIf b .exclusiveRegister
      s.checkExclusive (s.reg rn)
      let v ← s.memRead (s.reg rn) 4 s.privileged
      ((s.markExclusive (s.reg rn)).setReg rd v).advance 4)) (Good th s) :=
  runs_conditional c ((runs_unpredictableIf ..).andThen ((runs_checkExclusive ..).andThen ((runs_memRead ..).bind
    fun _ _ => (((Tame.refl s).markExclusive _).setReg ..).advance_four)))

theorem runs_strex (c : Cond) (b : Bool) (rn rd rm : RegNum) :
    Runs s (s.conditional c (do
      unpredictableIf b .exclusiveRegister
      s.checkExclusive (s.reg rn)
      if (s.isExclusive (s.reg rn)).1 then do
        let s1 ← (s.isExclusive (s.reg rn)).2.memWrite (s.reg rn) 4 (s.reg rm) s.privileged
        (s1.setReg rd 0).advance 4
      else ((s.isExclusive (s.reg rn)).2.setReg rd 1).advance 4)) (Good th s) :=
  runs_conditional c ((runs_unpredictableIf ..).andThen ((runs_checkExclusive ..).andThen
    (.ite (fun _ => ((kept_isExclusive s _).memWrite ..).bind fun _ h => (h.tame.setReg ..).advance_four)
      fun _ => ((kept_isExclusive s _).tame.setReg ..).advance_four)))

theorem runs_swap (rn rd rm : RegNum) (n : Nat) :
    Runs s (s.memRead (s.reg rn) n s.privileged >>= fun v =>
      s.memWrite (s.reg rn) n (s.reg rm) s.privileged >>= fun s1 => (s1.setReg rd v).advance 4) (Good th s) :=
  (runs_memRead ..).bind fun _ _ => ((Kept.refl s).memWrite ..).bind fun _ h => (h.tame.setReg ..).advance_four

theorem runs_swp (c : Cond) (rn rd rm : RegNum) :
    Runs s (s.conditional c (checkSwap rn rd rm >>= fun _ => s.checkExclusive (s.reg rn) >>= fun _ =>
      s.memRead (s.reg rn) 4 s.privileged >>= fun v =>
        s.memWrite (s.reg rn) 4 (s.reg rm) s.privileged >>= fun s1 => (s1.setReg rd v).advance 4)) (Good th s) :=
  runs_conditional c ((runs_unpredictableIf ..).andThen ((runs_checkExclusive ..).andThen (runs_swap rn rd rm 4)))

theorem runs_swpb (c : Cond) (rn rd rm : RegNum) :
    Runs s (s.conditional c (checkSwap rn rd rm >>= fun _ => s.memRead (s.reg rn) 1 s.privileged >>= fun v =>
      s.memWrite (s.reg rn) 1 (s.reg rm) s.privileged >>= fun s1 => (s1.setReg rd v).advance 4)) (Good th s) :=
  runs_conditional c ((runs_unpredictableIf ..).andThen (runs_swap rn rd rm 1))

end

end Sys2Proof.Machine
end

section
/-! Proofs. What the block, coprocessor, status, branch and Thumb meanings keep: for O3 and O8. -/

namespace Sys2Proof.Machine

set_option Elab.async false

section
variable {s : State} {th : Bool}

/-! ## Block transfers (R371 to R383) -/

theorem runs_ldm (c : Cond) (p u w : Bool) (rn : RegNum) (list : BitVec 16) :
    Runs s (s.conditional c (do
      checkList list rn
      unpredictableIf (w && (regList list).contains rn) .baseInList
      let vs ← s.loadBlock p u rn (regList list).length
      let s1 := (s.writeBlockBase w u rn (s.reg rn) (regList list).length).setRegs s.mode? (regList list) vs
      if list.getLsbD 15 then s1.loadWritePc (vs.getLastD 0) else s1.advance 4)) (Good th s) :=
  runs_conditional c ((runs_checkList ..).andThen ((runs_unpredictableIf ..).andThen ((runs_loadBlock ..).bind
    fun vs _ =>
      have h := ((Tame.refl s).writeBlockBase w u rn (s.reg rn) (regList list).length).setRegs (regList list) vs
      .ite (fun _ => h.bxWritePc _) fun _ => h.advance_four)))

theorem runs_ldmUser (c : Cond) (p u w : Bool) (rn : RegNum) (list : BitVec 16) :
    Runs s (s.conditional c (do
      checkList list rn
      unpredictableIf s.spsrIndex?.isNone .userBankMode
      unpredictableIf w .userBankWriteback
      let vs ← s.loadBlock p u rn (regList list).length
      (s.setRegs (some .usr) (regList list) vs).advance 4)) (Good th s) :=
  runs_conditional c ((runs_checkList ..).andThen ((runs_unpredictableIf ..).bind fun _ hk =>
    (runs_unpredictableIf ..).andThen ((runs_loadBlock ..).bind fun _ _ =>
      (tame_setRegs_of_not_usr (not_usr_of_spsrIndex hk) ..).advance_four)))

theorem runs_ldmReturn (c : Cond) (p u w : Bool) (rn : RegNum) (list : BitVec 16) :
    Runs s (s.conditional c (do
      checkList list rn
      unpredictableIf s.spsrIndex?.isNone .userBankMode
      unpredictableIf (w && (regList list).contains rn) .baseInList
      let vs ← s.loadBlock p u rn (regList list).length
      let psr ← s.needSpsr
      let s1 := (s.writeBlockBase w u rn (s.reg rn) (regList list).length).setRegs s.mode? (regList list) vs
      s1.exceptionReturn psr (vs.getLastD 0))) (Good th s) :=
  runs_conditional c ((runs_checkList ..).andThen ((runs_unpredictableIf ..).andThen ((runs_unpredictableIf ..).andThen
    ((runs_loadBlock ..).bind fun vs _ => (runs_needSpsr s).bind fun _ hm =>
      (((Tame.refl s).writeBlockBase w u rn (s.reg rn) (regList list).length).setRegs (regList list) vs).exceptionReturn
        hm _ _))))

theorem kept_drawn (draw : Bool) : Kept s (if draw then s.drawWord.2 else s) := by
  cases draw with
  | false => exact .refl s
  | true => exact kept_drawWord s

theorem runs_stm (c : Cond) (u w draw : Bool) (rn : RegNum) (list : BitVec 16) (start : Word) (n : Nat)
    (vs : List Word) :
    Runs s (s.conditional c (do
      checkList list rn
      s.checkBlock start n
      let s1 ← (if draw then s.drawWord.2 else s).writeWords start vs
      (s1.openMonitor.writeBlockBase w u rn (s.reg rn) n).advance 4)) (Good th s) :=
  runs_conditional c ((runs_checkList ..).andThen ((runs_checkBlock ..).andThen (((kept_drawn draw).writeWords ..).bind
    fun _ h => (h.tame.openMonitor.writeBlockBase ..).advance_four)))

theorem runs_stmUser (c : Cond) (w : Bool) (rn : RegNum) (list : BitVec 16) (start : Word) (n : Nat) (vs : List Word) :
    Runs s (s.conditional c (do
      checkList list rn
      unpredictableIf s.spsrIndex?.isNone .userBankMode
      unpredictableIf w .userBankWriteback
      s.checkBlock start n
      let s1 ← s.writeWords start vs
      s1.openMonitor.advance 4)) (Good th s) :=
  runs_conditional c ((runs_checkList ..).andThen ((runs_unpredictableIf ..).andThen ((runs_unpredictableIf ..).andThen
    ((runs_checkBlock ..).andThen (((Kept.refl s).writeWords ..).bind fun _ h => h.tame.openMonitor.advance_four)))))

theorem runs_rfe (p u w : Bool) (rn : RegNum) :
    Runs s (do
      unpredictableIf (!s.privileged) .rfeUserMode
      unpredictableIf (rn == 15) .multipleBasePc
      let vs ← s.loadBlock p u rn 2
      (s.writeBlockBase w u rn (s.reg rn) 2).exceptionReturn (vs.getLastD 0) (vs.headD 0)) (Good th s) :=
  (runs_unpredictableIf ..).bind fun _ hp => (runs_unpredictableIf ..).andThen ((runs_loadBlock ..).bind fun _ _ =>
    ((Tame.refl s).writeBlockBase ..).exceptionReturn (not_usr_of_privileged (Bool.not_eq_false' .. ▸ hp)) _ _)

theorem runs_srs (p u w : Bool) (mode : BitVec 5) :
    Runs s (do
      let psr ← s.needSpsr
      match Mode.ofBits mode with
      | none => unpredictable .unlistedMode
      | some m => do
        let start := blockStart p u (s.regIn (some m) 13) 2
        s.checkBlock start 2
        let s2 ← s.writeWords start [s.reg 14, psr]
        (if w then s2.openMonitor.setRegIn (some m) 13 (blockBase u (s.regIn (some m) 13) 2)
          else s2.openMonitor).advance 4) (Good th s) :=
  (runs_needSpsr s).bind fun _ hm => by
    split
    next => trivial
    next m _ =>
      exact (runs_checkBlock ..).andThen (((Kept.refl s).writeWords ..).bind fun _ h =>
        (Tame.ite (h.tame.openMonitor.setRegIn_of_not_usr hm ..) h.tame.openMonitor).advance_four)

/-! ## Coprocessors (R280 to R292) -/

/-- User mode has no access to the system coprocessor (R683). -/
theorem not_usr_of_cpAccepts {i : Instr} (h : s.cpAccepts 15 i = true) : s.mode? ≠ some .usr :=
  not_usr_of_privileged (Bool.and_eq_true_iff.mp h).2

theorem runs_checkCp (p : RegNum) (i : Instr) (b : Option Fault) :
    Runs s (s.checkCp p i b) fun _ => s.cpAccepts p i = true := by
  cases b with
  | none => exact .ite (fun h => (Bool.and_eq_true_iff.mp h).2) fun _ => runs_raise (by decide)
  | some f => exact .ite (fun _ => trivial) fun _ => runs_raise (by decide)

theorem runs_checkCpOther (p : RegNum) (i : Instr) (b : Option Fault) :
    Runs s (s.checkCpOther p i b) fun _ => True :=
  (runs_checkCp ..).andThen (.ite (fun _ => trivial) fun _ => trivial)

theorem runs_checkCpBlock (a : Word) (n : Nat) : Runs s (s.checkCpBlock a n) fun _ => True := runs_checkBlock s a n

theorem tame_ldcWords (req : CpReq) (k : Nat) (vs : List Word) : Tame s (s.ldcWords req k vs) := by
  rw [s.ldcWords_only_cop]
  exact ⟨rfl, rfl, fun _ => rfl, fun _ _ _ => rfl, rfl, id⟩

theorem runs_cpLoad (i : Instr) (req : CpReq) (rn : RegNum) (m : CpAddressing) :
    Runs s (s.cpLoad i req rn m) (Good th s) :=
  (runs_checkCpOther ..).andThen ((runs_checkCpBlock ..).andThen ((runs_readWords ..).bind fun _ _ =>
    ((tame_ldcWords ..).writeBase ..).advance_four))

theorem runs_cpStore (i : Instr) (req : CpReq) (rn : RegNum) (m : CpAddressing) :
    Runs s (s.cpStore i req rn m) (Good th s) :=
  (runs_checkCpOther ..).andThen ((runs_checkCpBlock ..).andThen (((Kept.refl s).writeWords ..).bind fun _ h =>
    (h.tame.openMonitor.writeBase ..).advance_four))

theorem runs_cpMoveTo2 (i : Instr) (req : CpReq) (rn rd : RegNum) : Runs s (s.cpMoveTo2 i req rn rd) (Good th s) :=
  (runs_checkCpOther ..).andThen ((Tame.refl s).setCpRegs ..).advance_four

theorem runs_cpMoveFrom2 (i : Instr) (req : CpReq) (rn rd : RegNum) : Runs s (s.cpMoveFrom2 i req rn rd) (Good th s) :=
  (runs_checkCpOther ..).andThen (((Tame.refl s).setReg ..).setReg ..).advance_four

theorem runs_cpData (i : Instr) (req : CpReq) : Runs s (s.cpData i req) (Good th s) :=
  (runs_checkCpOther ..).andThen ((Tame.refl s).setCpRegs ..).advance_four

theorem runs_cpWrite {i : Instr} {req : CpReq} (hacc : s.cpAccepts req.cp i = true) (v : Word) :
    Runs s (s.cpWrite req v) (Tame s) :=
  .ite (fun h15 => .ite (fun _ => ⟨rfl, rfl, fun hu => absurd hu (not_usr_of_cpAccepts (h15 ▸ hacc)), fun _ _ _ => rfl,
    rfl, id⟩) fun _ => trivial) fun _ => (Tame.refl s).setCpRegs ..

theorem runs_cpRead (req : CpReq) : Runs s (s.cpRead req) fun r => Tame s r.2 :=
  .ite (fun _ => .ite (fun _ => .refl s) fun _ => .ite (fun _ => .refl s) fun _ => trivial) fun _ =>
    (Tame.refl s).setCpRegs ..

theorem runs_cpMoveTo (i : Instr) (req : CpReq) (rd : RegNum) : Runs s (s.cpMoveTo i req rd) (Good th s) :=
  (runs_checkCp ..).bind fun _ hacc => (runs_cpWrite hacc _).bind fun _ h => h.advance_four

theorem runs_cpMoveFrom (i : Instr) (req : CpReq) (rd : RegNum) : Runs s (s.cpMoveFrom i req rd) (Good th s) :=
  (runs_checkCp ..).andThen ((runs_cpRead req).bind fun _ h => (Tame.ite (h.setFlagsFrom _) (h.setReg ..)).advance_four)

/-! ## Status registers (R300 to R309) -/

/-- The status register written in a privileged mode, T and J aside, and the pc moved. -/
theorem good_status (hm : s.mode? ≠ some .usr) {w p : Word}
    (hw : w &&& ~~~(userMask ||| privMask) = s.cpsr &&& ~~~(userMask ||| privMask))
    (hlisted : s.Inv → (Mode.ofBits (modeField w)).isSome = true)
    (hp : s.Inv → (th = true → s.thumb = true) → PcAligned s.thumb p) : Good th s ((s.setCpsr w).setPc p) :=
  good_of_not_usr hm fun hinv hth => by
    have hmode := hlisted hinv
    have haligned := hp hinv hth
    obtain ⟨-, hjava, hvalid, hspsr, -, hmem⟩ := hinv
    have ht : ((s.setCpsr w).setPc p).thumb = s.thumb := getLsbD_of_and_not hw (by decide) (by decide)
    refine ⟨hmode, (getLsbD_of_and_not hw (by decide) (by decide)).trans hjava,
      (and_of_and_not hw (by decide)).trans hvalid, hspsr, ?_, hmem⟩
    rw [ht]
    exact haligned

section
variable (hm : s.mode? ≠ some .usr) {w : Word}
  (hw : w &&& ~~~(userMask ||| privMask) = s.cpsr &&& ~~~(userMask ||| privMask))
  (hlisted : s.Inv → (Mode.ofBits (modeField w)).isSome = true)
include hm hw hlisted

theorem runs_status_four : Runs s ((s.setCpsr w).advance 4) (Good th s) :=
  .ite (fun _ => trivial) fun _ => good_status hm hw hlisted fun hinv _ => PcAligned.add_four hinv.2.2.2.2.1

theorem runs_status_two : Runs s ((s.setCpsr w).advance 2) (Good true s) :=
  .ite (fun _ => trivial) fun _ => good_status hm hw hlisted fun hinv hth => by
    have hpc : PcAligned s.thumb s.pc := hinv.2.2.2.2.1
    rw [hth rfl] at hpc ⊢
    exact hpc.add_two

end

/-- The masks A, I and F. -/
def maskBitsMask : Word := 0x1C0

theorem maskBits_and_not (u : State) (disable a i f : Bool) :
    (u.maskBits disable (cpsMask a i f)).cpsr &&& ~~~maskBitsMask = u.cpsr &&& ~~~maskBitsMask := by
  have hmask : ∀ a i f : Bool, cpsMask a i f &&& ~~~maskBitsMask = 0 ∧
      ~~~(cpsMask a i f) &&& ~~~maskBitsMask = ~~~maskBitsMask := by decide
  obtain ⟨hset, hclear⟩ := hmask a i f
  cases disable with
  | true =>
    show (u.cpsr ||| cpsMask a i f) &&& ~~~maskBitsMask = _
    rw [BitVec.and_or_distrib_right, hset]
    exact BitVec.or_zero
  | false =>
    show (u.cpsr &&& ~~~(cpsMask a i f)) &&& ~~~maskBitsMask = _
    rw [BitVec.and_assoc, hclear]

theorem modeField_maskWrite {old new mask : Word} (h : ∀ j < 5, mask.getLsbD j = true) :
    modeField (maskWrite old new mask) = modeField new := by
  refine BitVec.eq_of_getLsbD_eq fun j hj => ?_
  rw [modeField, modeField, BitVec.getLsbD_extractLsb', BitVec.getLsbD_extractLsb', Nat.zero_add,
    maskWrite_getLsbD _ _ _ _ (by omega), h j hj]
  rfl

theorem modeField_setWidth : ∀ m : BitVec 5, modeField (m.setWidth 32) = m := by decide

theorem runs_changeMode (u : State) (mode : BitVec 5) :
    Runs s (u.changeMode mode) fun t => t = u.setModeField mode ∧ (Mode.ofBits mode).isSome = true :=
  .ite (fun _ => trivial) fun h => ⟨rfl, Option.isSome_iff_ne_none.mpr fun hn => h (Option.isNone_iff_eq_none.mpr hn)⟩

/-- CPS with a mode, in a privileged mode. -/
theorem runs_setModeField (hm : s.mode? ≠ some .usr) {w : Word} {mode : BitVec 5}
    (hw : w &&& ~~~maskBitsMask = s.cpsr &&& ~~~maskBitsMask) (hmode : (Mode.ofBits mode).isSome = true) :
    Runs s (((s.setCpsr w).setModeField mode).advance 4) (Good th s) :=
  runs_status_four hm ((maskWrite_and_not w (by decide)).trans (and_of_and_not hw (by decide))) fun _ => by
    rw [modeField_maskWrite (by decide), modeField_setWidth]
    exact hmode

theorem runs_cpsMode (mode : BitVec 5) :
    Runs s (do
      let s1 ← if s.privileged then s.changeMode mode else .ok s
      s1.advance 4) (Good th s) :=
  .ite (fun hp => (runs_changeMode s mode).bind fun t ht => by
    obtain ⟨rfl, hmode⟩ := ht
    exact runs_setModeField (not_usr_of_privileged hp) rfl hmode) fun _ => (Tame.refl s).advance_four

/-- The masks written, in a privileged mode. -/
theorem masks_status (disable a i f : Bool) :
    (s.maskBits disable (cpsMask a i f)).cpsr &&& ~~~(userMask ||| privMask) =
      s.cpsr &&& ~~~(userMask ||| privMask) ∧
    (s.Inv → (Mode.ofBits (modeField (s.maskBits disable (cpsMask a i f)).cpsr)).isSome = true) :=
  have hw := maskBits_and_not s disable a i f
  ⟨and_of_and_not hw (by decide), fun hinv => by rw [modeField_of_and_not hw (by decide)]; exact hinv.1⟩

theorem runs_cpsFlags (disable m a i f : Bool) (mode : BitVec 5) :
    Runs s (do
      let s1 := s.maskBits disable (cpsMask a i f)
      let s2 ← if s.privileged then (if m then s1.changeMode mode else .ok s1) else .ok s
      s2.advance 4) (Good th s) :=
  .ite (fun hp => by
    have hm := not_usr_of_privileged hp
    split
    next =>
      refine (runs_changeMode _ mode).bind fun t ht => ?_
      obtain ⟨rfl, hmode⟩ := ht
      exact runs_setModeField hm (maskBits_and_not s disable a i f) hmode
    next =>
      obtain ⟨hw, hlisted⟩ := masks_status (s := s) disable a i f
      exact runs_status_four hm hw hlisted) fun _ => (Tame.refl s).advance_four

theorem runs_tCps (disable a i f : Bool) :
    Runs s (unpredictableIf (!(a || i || f)) .cpsNoFlag >>= fun _ =>
      (if s.privileged then s.maskBits disable (cpsMask a i f) else s).advance 2) (Good true s) :=
  (runs_unpredictableIf ..).andThen (by
    split
    next hp =>
      obtain ⟨hw, hlisted⟩ := masks_status (s := s) disable a i f
      exact runs_status_two (not_usr_of_privileged hp) hw hlisted
    next => exact (Tame.refl s).advance_two)

theorem byteMask_low (f : BitVec 4) : (byteMask f &&& (userMask ||| privMask) &&& 0x1F != 0) = true ∧
      (∀ j < 5, (byteMask f &&& (userMask ||| privMask)).getLsbD j = true) ∨
    ∀ j < 5, (byteMask f &&& (userMask ||| privMask)).getLsbD j = false := by
  revert f; decide

theorem getLsbD_of_and {a b : Word} {j : Nat} (h : (a &&& b).getLsbD j = true) : b.getLsbD j = true := by
  rw [BitVec.getLsbD_and] at h
  exact (Bool.and_eq_true_iff.mp h).2

/-- The mode field that MSR writes in a privileged mode is one of Table B.3. -/
theorem isSome_of_msr {f : BitVec 4} {v : Word} (hinv : s.Inv)
    (hcheck : (byteMask f &&& (userMask ||| privMask) &&& 0x1F != 0 && (Mode.ofBits (modeField v)).isNone) = false) :
    (Mode.ofBits (modeField (maskWrite s.cpsr v (byteMask f &&& (userMask ||| privMask))))).isSome = true := by
  rcases byteMask_low f with ⟨hne, hlow⟩ | hlow
  · rw [modeField_maskWrite hlow]
    rw [hne, Bool.true_and] at hcheck
    cases hmode : Mode.ofBits (modeField v) with
    | none => rw [hmode] at hcheck; cases hcheck
    | some m => rfl
  · rw [modeField_of_and_not (maskWrite_and_not (big := byteMask f &&& (userMask ||| privMask)) _ fun _ _ h => h) hlow]
    exact hinv.1

theorem runs_msrCpsr (f : BitVec 4) (op : MsrOperand) :
    Runs s (s.msrOperand op >>= fun v =>
      unpredictableIf (s.privileged && (v ^^^ s.cpsr) &&& byteMask f &&& stateMask != 0) .msrState >>= fun _ =>
      unpredictableIf (s.privileged && byteMask f &&& s.writableMask &&& 0x1F != 0 &&
        (Mode.ofBits (modeField v)).isNone) .unlistedMode >>= fun _ =>
      (s.setCpsr (maskWrite s.cpsr v (byteMask f &&& s.writableMask))).advance 4) (Good th s) := by
  refine (runs_msrOperand s op).bind fun v _ => (runs_unpredictableIf ..).andThen
    ((runs_unpredictableIf ..).bind fun _ hcheck => ?_)
  cases hp : s.privileged with
  | false =>
    rw [State.writableMask, hp]
    exact ((Tame.refl s).setCpsr (maskWrite_and_not _ fun _ _ => getLsbD_of_and)).advance_four
  | true =>
    rw [State.writableMask, hp, Bool.true_and, if_pos rfl] at hcheck
    rw [State.writableMask, hp, if_pos rfl]
    exact runs_status_four (not_usr_of_privileged hp) (maskWrite_and_not _ fun _ _ => getLsbD_of_and) fun hinv => isSome_of_msr hinv hcheck

theorem runs_mrsSpsr (rd : RegNum) :
    Runs s (unpredictableIf (rd == 15) .mrsPc >>= fun _ => s.needSpsr >>= fun psr =>
      (s.setReg rd (psr &&& psrValid)).advance 4) (Good th s) :=
  (runs_unpredictableIf ..).andThen ((runs_needSpsr s).bind fun _ _ => ((Tame.refl s).setReg ..).advance_four)

theorem runs_msrSpsr (f : BitVec 4) (op : MsrOperand) :
    Runs s (s.msrOperand op >>= fun v => match s.spsrIndex? with
      | none => unpredictable .noSpsr
      | some k => ({ s with spsr := s.spsr.set k.val (maskWrite s.spsr[k.val] v
        (byteMask f &&& (userMask ||| privMask ||| stateMask))) } : State).advance 4) (Good th s) :=
  (runs_msrOperand s op).bind fun v _ => by
    split
    next => trivial
    next k hk =>
      refine .ite (fun _ => trivial) fun _ => good_of_not_usr (not_usr_of_spsrIndex (by rw [hk]; rfl)) fun hinv _ => ?_
      obtain ⟨hmode, hjava, hvalid, hspsr, hpc, hmem⟩ := hinv
      refine ⟨hmode, hjava, hvalid, fun j => ?_, PcAligned.add_four hpc, hmem⟩
      show (s.spsr.set k.val _)[j.val] &&& ~~~psrValid = 0
      rw [Vector.getElem_set]
      split
      next =>
        have hmask : userMask ||| privMask ||| stateMask = psrValid := by decide
        rw [hmask, maskWrite_and_not _ fun _ _ => getLsbD_of_and]
        exact hspsr k
      next => exact hspsr j

/-! ## Branches (R260 to R268, R620 to R632) -/

theorem tame_linkArm : Tame s s.linkArm := (Tame.refl s).setReg ..

theorem tame_linkThumb : Tame s s.linkThumb := (Tame.refl s).setReg ..

theorem tame_linkPair : Tame s s.linkPair := (Tame.refl s).setReg ..

theorem even_branchTarget {imm : BitVec 24} (h : Bool) (hpc : s.pc.toNat % 2 = 0) :
    PcAligned true (s.branchTarget imm + if h then 2 else 0) := by
  have hword : (imm.signExtend 32 <<< 2).toNat % 2 = 0 := by
    rw [BitVec.toNat_shiftLeft, Nat.shiftLeft_eq]
    omega
  rw [pcAligned_true, State.branchTarget]
  generalize imm.signExtend 32 <<< 2 = offset at hword
  cases h
  · show (s.pc + 8 + offset + 0).toNat % 2 = 0
    bv_omega
  · show (s.pc + 8 + offset + 2).toNat % 2 = 0
    bv_omega

theorem runs_blxImm (h : Bool) (imm : BitVec 24) :
    Runs s (.ok ((s.linkArm.setCpsr (setBit s.cpsr 5 true)).setPc (s.branchTarget imm + if h then 2 else 0)))
      (Good th s) := by
  rw [show s.cpsr = s.linkArm.cpsr from (s.setRegIn_cpsr ..).symm]
  exact tame_linkArm.exchanged fun hinv _ => even_branchTarget h (PcAligned.even hinv.2.2.2.2.1)

theorem runs_blxReg (c : Cond) (b : Bool) (f : Fault) (a : Word) :
    Runs s (s.conditional c (unpredictableIf b f >>= fun _ => s.linkArm.bxWritePc a)) (Good th s) :=
  runs_conditional c ((runs_unpredictableIf ..).andThen (tame_linkArm.bxWritePc a))

theorem runs_bxj (c : Cond) (a : Word) :
    Runs s (s.conditional c (if s.je then refuse .java else s.bxWritePc a)) (Good th s) :=
  runs_conditional c (.ite (fun _ => trivial) fun _ => (Tame.refl s).bxWritePc a)

/-! ## Thumb (R521 to R643) -/

theorem runs_tLogic (ld : LowReg) (r : Word) : Runs s (s.tLogic ld r) (Good true s) :=
  (((Tame.refl s).setLreg ..).setNZ _).advance_two

theorem runs_tShift (ld : LowReg) (r : Word × Bool) : Runs s (s.tShift ld r) (Good true s) :=
  (((Tame.refl s).setLreg ..).setNZC ..).advance_two

theorem runs_tArith (ld : LowReg) (r : Word × Bool × Bool) : Runs s (s.tArith ld r) (Good true s) :=
  (((Tame.refl s).setLreg ..).setNZCV ..).advance_two

theorem runs_tCompare (r : Word × Bool × Bool) : Runs s (s.tCompare r) (Good true s) :=
  ((Tame.refl s).setNZCV ..).advance_two

theorem runs_tMove (ld : LowReg) (r : Word) : Runs s (s.tMove ld r) (Good true s) :=
  ((Tame.refl s).setLreg ..).advance_two

theorem runs_tWriteHigh (rd : RegNum) (r : Word) : Runs s (s.tWriteHigh rd r) (Good true s) :=
  .ite (fun _ => (Tame.refl s).branchTo r) fun _ => ((Tame.refl s).setReg ..).advance_two

theorem runs_tMul (ld : LowReg) (b : Bool) (f : Fault) (r : Word) :
    Runs s (unpredictableIf b f >>= fun _ => (((s.setLreg ld r).drawBit.2).setNZC r s.drawBit.1).advance 2)
      (Good true s) :=
  (runs_unpredictableIf ..).andThen (((Tame.refl s).setLreg ..).drawBit.setNZC ..).advance_two

theorem runs_tLoadWord (ld : LowReg) (a : Word) : Runs s (s.tLoadWord ld a) (Good true s) :=
  (runs_loadWord ..).bind fun _ _ => runs_tMove ld _

theorem runs_tLoadHalf (ext : Word → Word) (ld : LowReg) (a : Word) : Runs s (s.tLoadHalf ext ld a) (Good true s) :=
  (runs_loadHalf ..).bind fun _ _ => runs_tMove ld _

theorem runs_tLoadByte (ext : Word → Word) (ld : LowReg) (a : Word) : Runs s (s.tLoadByte ext ld a) (Good true s) :=
  (runs_memRead s a 1 _).bind fun _ _ => runs_tMove ld _

theorem runs_tStore {st : Res State} (hst : Runs s st (Kept s)) :
    Runs s (st >>= fun u => u.openMonitor.advance 2) (Good true s) :=
  hst.bind fun _ h => h.tame.openMonitor.advance_two

theorem runs_tPush (b : Bool) (f : Fault) (start : Word) (n : Nat) (vs : List Word) :
    Runs s (unpredictableIf b f >>= fun _ => s.checkBlock start n >>= fun _ => s.writeWords start vs >>= fun s1 =>
      (s1.openMonitor.setReg 13 start).advance 2) (Good true s) :=
  (runs_unpredictableIf ..).andThen ((runs_checkBlock ..).andThen (((Kept.refl s).writeWords ..).bind fun _ h =>
    (h.tame.openMonitor.setReg ..).advance_two))

theorem runs_tPop (b r : Bool) (f : Fault) (regs : List RegNum) :
    Runs s (unpredictableIf b f >>= fun _ => s.loadBlock false true 13 regs.length >>= fun vs =>
      if r then
        ((s.setReg 13 (blockBase true (s.reg 13) regs.length)).setRegs s.mode? regs vs).loadWritePc (vs.getLastD 0)
      else ((s.setReg 13 (blockBase true (s.reg 13) regs.length)).setRegs s.mode? regs vs).advance 2) (Good true s) :=
  (runs_unpredictableIf ..).andThen ((runs_loadBlock ..).bind fun vs _ =>
    have h := ((Tame.refl s).setReg 13 (blockBase true (s.reg 13) regs.length)).setRegs regs vs
    .ite (fun _ => h.bxWritePc _) fun _ => h.advance_two)

theorem runs_tStmia (b draw : Bool) (f : Fault) (ln : LowReg) (start base : Word) (n : Nat) (vs : List Word) :
    Runs s (unpredictableIf b f >>= fun _ => s.checkBlock start n >>= fun _ =>
      (if draw then s.drawWord.2 else s).writeWords start vs >>= fun s1 =>
        (s1.openMonitor.setLreg ln base).advance 2) (Good true s) :=
  (runs_unpredictableIf ..).andThen ((runs_checkBlock ..).andThen (((kept_drawn draw).writeWords ..).bind fun _ h =>
    (h.tame.openMonitor.setLreg ..).advance_two))

theorem runs_tLdmia (b b' : Bool) (f f' : Fault) (ln : LowReg) (base : Word) (regs : List RegNum) :
    Runs s (unpredictableIf b f >>= fun _ => unpredictableIf b' f' >>= fun _ =>
      s.loadBlock false true (low ln) regs.length >>= fun vs =>
        ((s.setLreg ln base).setRegs s.mode? regs vs).advance 2) (Good true s) :=
  (runs_unpredictableIf ..).andThen ((runs_unpredictableIf ..).andThen ((runs_loadBlock ..).bind fun _ _ =>
    (((Tame.refl s).setLreg ..).setRegs ..).advance_two))

theorem runs_tBCond (c : Cond) (a : Word) : Runs s (if s.passed c then s.branchTo a else s.advance 2) (Good true s) :=
  .ite (fun _ => (Tame.refl s).branchTo a) fun _ => (Tame.refl s).advance_two

theorem runs_tBlxReg (b : Bool) (f : Fault) (a : Word) :
    Runs s (unpredictableIf b f >>= fun _ => s.linkThumb.bxWritePc a) (Good true s) :=
  (runs_unpredictableIf ..).andThen (tame_linkThumb.bxWritePc a)

theorem runs_toArm {u : State} (h : Tame s u) (a : Word) : Runs s (.ok (u.toArm a)) (Good th s) := h.toArm a

end

end Sys2Proof.Machine
end

section
/-! Proofs. What every step keeps and what user mode leaves: O3, O8. -/

namespace Sys2Proof.Machine

set_option Elab.async false

/-! ## Every meaning -/

/-- Each meaning is a run that ends well: by the operation that ends it. -/
theorem exec_runs (i : Instr) (s : State) : ∃ r, exec i s = finish r ∧ Runs s r (Good i.isThumb s) := by
  cases i
  -- Data processing
  case and | eor | orr | bic => exact ⟨_, rfl, runs_dpLogical ..⟩
  case mov | mvn => exact ⟨_, rfl, runs_dpMove ..⟩
  case sub | rsb | add | adc | sbc | rsc => exact ⟨_, rfl, runs_dpArith ..⟩
  case tst | teq => exact ⟨_, rfl, runs_dpTest ..⟩
  case cmp | cmn => exact ⟨_, rfl, runs_dpCompare ..⟩
  case clz => exact ⟨_, rfl, runs_checked _ _ _ ((Tame.refl s).setReg ..)⟩
  -- Multiplies
  case mul | mla => exact ⟨_, rfl, runs_checkedMul _ _ _ (tame_writeMul ..)⟩
  case umull | umlal | smull | smlal => exact ⟨_, rfl, runs_checkedMul _ _ _ (tame_writeLong ..)⟩
  case umaal | smlalxy | smlald | smlsld => exact ⟨_, rfl, runs_checkedMul _ _ _ (tame_writePair ..)⟩
  case smlaxy | smlawy | smlad | smuad | smlsd =>
    exact ⟨_, rfl, runs_checkedMul _ _ _ (((Tame.refl s).setReg ..).orQ _)⟩
  case smulwy | smulxy | smusd | smmla | smmul | smmls =>
    exact ⟨_, rfl, runs_checkedMul _ _ _ ((Tame.refl s).setReg ..)⟩
  -- Media
  case qadd16 | qaddsubx | qsubaddx | qsub16 | qadd8 | qsub8 | uqadd16 | uqaddsubx | uqsubaddx | uqsub16 | uqadd8 |
      uqsub8 =>
    exact ⟨_, rfl, runs_parallelSat ..⟩
  case sadd16 | saddsubx | ssubaddx | ssub16 | sadd8 | ssub8 | uadd16 | uaddsubx | usubaddx | usub16 | uadd8 | usub8 =>
    exact ⟨_, rfl, runs_parallelMod ..⟩
  case shadd16 | shaddsubx | shsubaddx | shsub16 | shadd8 | shsub8 | uhadd16 | uhaddsubx | uhsubaddx | uhsub16 |
      uhadd8 | uhsub8 =>
    exact ⟨_, rfl, runs_parallelHalf ..⟩
  case qadd | qsub | qdadd | qdsub | ssat | usat | ssat16 | usat16 =>
    exact ⟨_, rfl, runs_checked _ _ _ (((Tame.refl s).setReg ..).orQ _)⟩
  case pkhbt | pkhtb | sel | rev | rev16 | revsh | sxtab16 | sxtb16 | sxtab | sxtb | sxtah | sxth | uxtab16 | uxtb16 |
      uxtab | uxtb | uxtah | uxth | usada8 | usad8 =>
    exact ⟨_, rfl, runs_checked _ _ _ ((Tame.refl s).setReg ..)⟩
  -- Loads and stores
  case ldr => exact ⟨_, rfl, runs_ldr ..⟩
  case ldrt => exact ⟨_, rfl, runs_load _ _ _ _ _ _ _ id (runs_loadWord ..)⟩
  case ldrb | ldrbt => exact ⟨_, rfl, runs_load _ _ _ _ _ _ _ id (runs_memRead ..)⟩
  case ldrsb => exact ⟨_, rfl, runs_load _ _ _ _ _ _ _ signByte (runs_memRead ..)⟩
  case ldrh => exact ⟨_, rfl, runs_load _ _ _ _ _ _ _ id (runs_loadHalf ..)⟩
  case ldrsh => exact ⟨_, rfl, runs_load _ _ _ _ _ _ _ signHalf (runs_loadHalf ..)⟩
  case str | strt => exact ⟨_, rfl, runs_store _ _ _ _ _ _ _ (runs_storeWord ..)⟩
  case strb | strbt => exact ⟨_, rfl, runs_store _ _ _ _ _ _ _ ((Kept.refl s).memWrite ..)⟩
  case strh => exact ⟨_, rfl, runs_store _ _ _ _ _ _ _ (runs_storeHalf ..)⟩
  case ldrd => exact ⟨_, rfl, runs_ldrd ..⟩
  case strd => exact ⟨_, rfl, runs_strd ..⟩
  case ldrex => exact ⟨_, rfl, runs_ldrex ..⟩
  case strex => exact ⟨_, rfl, runs_strex ..⟩
  case swp => exact ⟨_, rfl, runs_swp ..⟩
  case swpb => exact ⟨_, rfl, runs_swpb ..⟩
  case pld => exact ⟨_, rfl, (runs_unpredictableIf ..).andThen (Tame.refl s).advance_four⟩
  case ldm => exact ⟨_, rfl, runs_ldm ..⟩
  case ldmUser => exact ⟨_, rfl, runs_ldmUser ..⟩
  case ldmReturn => exact ⟨_, rfl, runs_ldmReturn ..⟩
  case stm => exact ⟨_, rfl, runs_stm ..⟩
  case stmUser => exact ⟨_, rfl, runs_stmUser ..⟩
  case rfe => exact ⟨_, rfl, runs_rfe ..⟩
  case srs => exact ⟨_, rfl, runs_srs ..⟩
  -- Coprocessors
  case stc => exact ⟨_, rfl, runs_conditional _ (runs_cpStore ..)⟩
  case ldc => exact ⟨_, rfl, runs_conditional _ (runs_cpLoad ..)⟩
  case mcrr => exact ⟨_, rfl, runs_conditional _ (runs_cpMoveTo2 ..)⟩
  case mrrc => exact ⟨_, rfl, runs_conditional _ (runs_cpMoveFrom2 ..)⟩
  case cdp => exact ⟨_, rfl, runs_conditional _ (runs_cpData ..)⟩
  case mcr => exact ⟨_, rfl, runs_conditional _ (runs_cpMoveTo ..)⟩
  case mrc => exact ⟨_, rfl, runs_conditional _ (runs_cpMoveFrom ..)⟩
  case stc2 => exact ⟨_, rfl, runs_cpStore ..⟩
  case ldc2 => exact ⟨_, rfl, runs_cpLoad ..⟩
  case mcrr2 => exact ⟨_, rfl, runs_cpMoveTo2 ..⟩
  case mrrc2 => exact ⟨_, rfl, runs_cpMoveFrom2 ..⟩
  case cdp2 => exact ⟨_, rfl, runs_cpData ..⟩
  case mcr2 => exact ⟨_, rfl, runs_cpMoveTo ..⟩
  case mrc2 => exact ⟨_, rfl, runs_cpMoveFrom ..⟩
  -- Status registers and exceptions
  case mrsCpsr => exact ⟨_, rfl, runs_checked _ _ _ ((Tame.refl s).setReg ..)⟩
  case mrsSpsr => exact ⟨_, rfl, runs_conditional _ (runs_mrsSpsr ..)⟩
  case msrCpsr => exact ⟨_, rfl, runs_conditional _ (runs_msrCpsr ..)⟩
  case msrSpsr => exact ⟨_, rfl, runs_conditional _ (runs_msrSpsr ..)⟩
  case cpsMode => exact ⟨_, rfl, runs_cpsMode ..⟩
  case cpsFlags => exact ⟨_, rfl, runs_cpsFlags ..⟩
  case setend => exact ⟨_, rfl, ((Tame.refl s).setEndian _).advance_four⟩
  case swi => exact ⟨_, rfl, runs_conditional _ (runs_raise (by decide))⟩
  case bkpt | tSwi | tBkpt | tUndefined => exact ⟨_, rfl, runs_raise (by decide)⟩
  -- Branches
  case b => exact ⟨_, rfl, runs_conditional _ ((Tame.refl s).branchTo _)⟩
  case bl => exact ⟨_, rfl, runs_conditional _ (tame_linkArm.branchTo _)⟩
  case blxImm => exact ⟨_, rfl, runs_blxImm ..⟩
  case blxReg => exact ⟨_, rfl, runs_blxReg ..⟩
  case bx => exact ⟨_, rfl, runs_conditional _ ((Tame.refl s).bxWritePc _)⟩
  case bxj => exact ⟨_, rfl, runs_bxj ..⟩
  -- Thumb data
  case tLslImm | tLsrImm | tAsrImm | tLslReg | tLsrReg | tAsrReg | tRor => exact ⟨_, rfl, runs_tShift ..⟩
  case tAddReg | tSubReg | tAddImm3 | tSubImm3 | tAddImm8 | tSubImm8 | tAdc | tSbc | tNeg =>
    exact ⟨_, rfl, runs_tArith ..⟩
  case tMovImm | tAnd | tEor | tOrr | tBic | tMvn => exact ⟨_, rfl, runs_tLogic ..⟩
  case tCmpImm | tCmpReg | tCmn | tCmpHigh => exact ⟨_, rfl, runs_tCompare ..⟩
  case tTst => exact ⟨_, rfl, ((Tame.refl s).setNZ _).advance_two⟩
  case tMul => exact ⟨_, rfl, runs_tMul ..⟩
  case tAddHigh | tMovHigh => exact ⟨_, rfl, runs_tWriteHigh ..⟩
  case tCpy | tAddPc | tAddSp | tSxth | tSxtb | tUxth | tUxtb | tRev | tRev16 | tRevsh => exact ⟨_, rfl, runs_tMove ..⟩
  case tAddSpImm | tSubSpImm => exact ⟨_, rfl, ((Tame.refl s).setReg ..).advance_two⟩
  -- Thumb memory
  case tLdrPc | tLdrReg | tLdrImm | tLdrSp => exact ⟨_, rfl, runs_tLoadWord ..⟩
  case tLdrhReg | tLdrshReg | tLdrhImm => exact ⟨_, rfl, runs_tLoadHalf ..⟩
  case tLdrsbReg | tLdrbReg | tLdrbImm => exact ⟨_, rfl, runs_tLoadByte ..⟩
  case tStrReg | tStrImm | tStrSp => exact ⟨_, rfl, runs_tStore (runs_storeWord ..)⟩
  case tStrhReg | tStrhImm => exact ⟨_, rfl, runs_tStore (runs_storeHalf ..)⟩
  case tStrbReg | tStrbImm => exact ⟨_, rfl, runs_tStore ((Kept.refl s).memWrite ..)⟩
  case tPush => exact ⟨_, rfl, runs_tPush ..⟩
  case tPop => exact ⟨_, rfl, runs_tPop ..⟩
  case tStmia => exact ⟨_, rfl, runs_tStmia ..⟩
  case tLdmia => exact ⟨_, rfl, runs_tLdmia ..⟩
  -- Thumb branches and status
  case tBCond => exact ⟨_, rfl, runs_tBCond ..⟩
  case tB => exact ⟨_, rfl, (Tame.refl s).branchTo _⟩
  case tBx => exact ⟨_, rfl, (Tame.refl s).bxWritePc _⟩
  case tBlxReg => exact ⟨_, rfl, runs_tBlxReg ..⟩
  case tBlBlxPrefix => exact ⟨_, rfl, ((Tame.refl s).setReg ..).advance_two⟩
  case tBlSuffix => exact ⟨_, rfl, tame_linkThumb.branchTo _⟩
  case tBl => exact ⟨_, rfl, tame_linkPair.branchTo _⟩
  case tBlxSuffix => exact ⟨_, rfl, runs_toArm tame_linkThumb _⟩
  case tBlx => exact ⟨_, rfl, runs_toArm tame_linkPair _⟩
  case tSetend => exact ⟨_, rfl, ((Tame.refl s).setEndian _).advance_two⟩
  case tCps => exact ⟨_, rfl, runs_tCps ..⟩

/-- How a run that answers a next state ends: well, or by the entry of an exception. -/
theorem Runs.of_next {s t : State} {th : Bool} {r : Res State} (hr : Runs s r (Good th s)) (h : finish r = .next t) :
    Good th s t ∨ ∃ e u, e ∈ traps ∧ t = enter e u ∧ Kept s u := by
  match r, hr, h with
  | .ok _, hr, rfl => exact .inl hr
  | .error (.raise e u), ⟨he, hk⟩, rfl => exact .inr ⟨e, u, he, rfl, hk⟩

theorem exec_next {i : Instr} {s t : State} (h : exec i s = .next t) :
    Good i.isThumb s t ∨ ∃ e u, e ∈ traps ∧ t = enter e u ∧ Kept s u := by
  obtain ⟨r, hr, hruns⟩ := exec_runs i s
  exact hruns.of_next (hr.symm.trans h)

/-! ## User mode -/

theorem mode?_of_masks {s t : State} (h : t.cpsr &&& 0x1DF = s.cpsr &&& 0x1DF) : t.mode? = s.mode? :=
  have hmask : t.cpsr &&& ~~~0xFFFFFE20 = s.cpsr &&& ~~~0xFFFFFE20 := h
  congrArg Mode.ofBits (modeField_of_and_not hmask (by decide))

/-- Settles O8: each meaning leaves what user mode may not write, or raises an exception from a state that has it. -/
theorem userModeIsConfined : Obligations.UserModeIsConfined := by
  intro i s t hm hnext
  rcases exec_next hnext with ⟨-, hconfined⟩ | ⟨e, u, he, rfl, hk⟩
  · obtain ⟨hmasks, hspsr, hc1, hbanks⟩ := hconfined hm
    exact .inl ⟨(mode?_of_masks hmasks).trans hm, hmasks, hspsr, hc1, hbanks⟩
  · exact .inr ⟨e, u, he, rfl, hk.tame.mode?.trans hm, hk.cpsr, hk.spsr, hk.regs, hk.cp15c1⟩

/-! ## The invariant -/

theorem Kept.inv {s u : State} (h : Kept s u) (hinv : s.Inv) : u.Inv := by
  obtain ⟨hmode, hjava, hvalid, hspsr, hpc, hmem⟩ := hinv
  refine ⟨by rw [h.tame.mode?]; exact hmode, ?_, by rw [h.cpsr]; exact hvalid, fun k => by rw [h.spsr]; exact hspsr k,
    ?_, h.mem hmem⟩
  · rw [State.java, h.cpsr]
    exact hjava
  · rw [h.tame.thumb, h.pc]
    exact hpc

theorem ne_reset_of_traps {e : Exc} (h : e ∈ traps) : e ≠ .reset := by
  revert e; decide

theorem Exc.spsrIndex_mode (e : Exc) : ∃ k, e.mode.spsrIndex = some k := by
  cases e <;> exact ⟨_, rfl⟩

/-- The vectors are words of ARM code (R652). -/
theorem vector_aligned (s : State) (e : Exc) : (s.vectorBase + e.vector) &&& 3 = 0 := by
  have hvector : ((0xFFFF0000 : Word) + e.vector).toNat % 4 = 0 ∧ ((0x00000000 : Word) + e.vector).toNat % 4 = 0 := by
    cases e <;> exact ⟨rfl, rfl⟩
  obtain ⟨hhigh, hlow⟩ := hvector
  rw [and_three_eq_zero_iff, State.vectorBase]
  split
  · exact hhigh
  · exact hlow

theorem psr_masked (w : Word) : w &&& psrValid &&& ~~~psrValid = 0 := by
  rw [BitVec.and_assoc]
  exact BitVec.and_zero

/-- The entry of an exception keeps the invariant (R655). -/
theorem enter_inv {s : State} {e : Exc} (he : e ≠ .reset) (hinv : s.Inv) : (enter e s).Inv := by
  obtain ⟨k, hk⟩ := e.spsrIndex_mode
  obtain ⟨-, -, -, hspsr, -, hmem⟩ := hinv
  have hbit := fun {j : Nat} (hj : j < 32) =>
    (congrArg (BitVec.getLsbD · j) (enter_cpsr s he hk)).trans (e.psr_getLsbD s.cpsr hj)
  have ht : (enter e s).thumb = false := hbit (by decide)
  refine ⟨by rw [enter_mode? s he hk]; rfl, hbit (by decide), by rw [enter_cpsr s he hk]; exact e.psr_valid _,
    fun j => ?_, ?_, by rw [enter_mem e s he]; exact hmem⟩
  · simp only [enter_spsr s he hk, Vector.getElem_set]
    split
    next => exact psr_masked _
    next => exact hspsr j
  · rw [ht, enter_pc s he hk]
    exact vector_aligned s e

/-- A reset has the invariant, whatever was before it (R75). -/
theorem takeReset_inv (s : State) : (takeReset s).Inv := by
  have hbit := fun {j : Nat} (hj : j < 32) (hm : (0xF80F0000 : Word).getLsbD j = false) =>
    (takeReset_cpsr_getLsbD s hj hm).trans (Exc.psr_getLsbD .reset 0 hj)
  have ht : (takeReset s).thumb = false := hbit (by decide) (by decide)
  refine ⟨by rw [takeReset_mode?]; rfl, hbit (by decide) (by decide), takeReset_valid s, fun k => ?_, ?_,
    takeReset_mem_wf s⟩
  · show (Vector.ofFn _)[k.val] &&& _ = 0
    rw [Vector.getElem_ofFn]
    exact psr_masked _
  · rw [ht]
    exact vector_aligned s .reset

/-! ## What a step runs -/

/-- A run ends in a state of the invariant. -/
theorem Runs.inv_of_next {s t : State} {r : Res State} {th : Bool} (hinv : s.Inv) (hth : th = true → s.thumb = true)
    (hr : Runs s r (Good th s)) (h : finish r = .next t) : t.Inv := by
  rcases hr.of_next h with ⟨hgood, -⟩ | ⟨e, u, he, rfl, hk⟩
  · exact hgood hinv hth
  · exact enter_inv (ne_reset_of_traps he) (hk.inv hinv)

theorem decodeArmBytes_isThumb {bytes rest : List Byte} {i : Instr} (h : decodeArmBytes bytes = .ok (i, rest)) :
    i.isThumb = false := by
  unfold decodeArmBytes at h
  split at h
  next b0 b1 b2 b3 rest =>
    cases hw : decodeArm (b3 ++ b2 ++ b1 ++ b0) with
    | none => simp only [hw] at h; cases h
    | some j =>
      simp only [hw, Except.ok.injEq, Prod.mk.injEq] at h
      obtain ⟨rfl, -⟩ := h
      rw [Instr.isThumb, (decodedWordsAreWellFormed.1 _ _ hw).2]
      rfl
  next => cases h

/-- Thumb code is run in Thumb state only (R174). -/
theorem decode_isThumb {s : State} {bytes rest : List Byte} {i : Instr} (h : decode s.thumb bytes = .ok (i, rest))
    (hi : i.isThumb = true) : s.thumb = true := by
  cases ht : s.thumb with
  | true => rfl
  | false =>
    rw [ht] at h
    exact absurd (decodeArmBytes_isThumb h) (by rw [hi]; decide)

theorem Runs.error {α β : Type} {s : State} {e : Stop} {p : α → Prop} {q : β → Prop}
    (h : Runs s (.error e : Res α) p) : Runs s (.error e : Res β) q := by
  cases e with
  | raise e u => exact h
  | fault f => trivial
  | refused r => trivial

theorem runs_unlisted (s : State) (e : DecodeError) : Runs s (s.unlisted e) (Good false s) := by
  unfold State.unlisted
  split
  next w =>
    split
    next => exact runs_conditional _ (runs_raise (by decide))
    next => exact runs_raise (by decide)
  next => exact runs_raise (by decide)
  next => exact runs_raise (by decide)

theorem runs_fetch (s : State) : Runs s s.fetch fun _ => True := by
  have habort : Runs s (raise .prefetchAbort s : Res (List Byte)) fun _ => True := runs_raise (by decide)
  exact .ite
    (fun _ => .ite (fun _ => trivial) fun _ => .ite (fun _ => habort) fun _ =>
      .ite (fun _ => .ite (fun _ => trivial) fun _ => .ite (fun _ => habort) fun _ => trivial) fun _ => trivial)
    fun _ => .ite (fun _ => trivial) fun _ => .ite (fun _ => habort) fun _ => trivial

theorem run_inv {s t : State} {bytes : List Byte} (hinv : s.Inv) (h : s.run bytes = .next t) : t.Inv := by
  cases hdec : decode s.thumb bytes with
  | ok decoded =>
    obtain ⟨r, hr, hruns⟩ := exec_runs decoded.1 s
    exact hruns.inv_of_next hinv (decode_isThumb hdec) (hr ▸ State.run_of_decode hdec ▸ h)
  | error e =>
    rw [State.run_of_unlisted hdec] at h
    exact (runs_unlisted s e).inv_of_next hinv Bool.noConfusion h

theorem runNext_inv {s t : State} (hinv : s.Inv) (h : s.runNext = .next t) : t.Inv := by
  have hmode : s.mode?.isSome = true := hinv.1
  have hjava : s.java = false := hinv.2.1
  cases hfetch : s.fetch with
  | ok bytes =>
    rw [State.runNext_of_fetch hmode hjava hfetch] at h
    exact run_inv hinv h
  | error e =>
    have hruns : Runs s (.error e : Res State) (Good false s) := (hfetch ▸ runs_fetch s).error
    have hnext : finish (.error e) = .next t := by
      simp only [State.runNext, Option.isNone_eq_false_iff.mpr hmode, hjava, hfetch, Bool.false_eq_true, if_false] at h
      exact h
    exact hruns.inv_of_next hinv Bool.noConfusion hnext

/-- Settles O3: a reset, the entry of an exception and every meaning lead to a state of the invariant. -/
theorem everyStepKeepsTheInvariant : Obligations.EveryStepKeepsTheInvariant := by
  intro s t hinv h
  unfold step at h
  split at h
  next => exact Host.Outcome.next.inj h ▸ takeReset_inv s
  next =>
    split at h
    next => exact Host.Outcome.next.inj h ▸ enter_inv (by decide) hinv
    next =>
      split at h
      next => exact Host.Outcome.next.inj h ▸ enter_inv (by decide) hinv
      next => exact runNext_inv hinv h

end Sys2Proof.Machine
end
